-- ==== Sys2Proof/Word.lean ====
section
/-! DEFINITION. The widths the GS40's words have on the control link and in its wrapping counters (10 R185). -/

namespace Sys2Proof

/-- A byte of the control link. -/
abbrev Byte := BitVec 8

/-- A frame number (R1), or a two-byte field of a message. -/
abbrev U16 := BitVec 16

/-- A pass index, a monitor count or a fixed counter; all wrap modulo 2^32. -/
abbrev U32 := BitVec 32

end Sys2Proof
end

