-- ==== Sys2Proof/Syntax.lean ====
section
/-! DEFINITION. The commands of the GS40: one constructor per row of spec/opcode_table.json. -/

namespace Sys2Proof

/-- The two directions (00 "Directions"). -/
inductive Direction where
  | dl
  | ul
deriving DecidableEq, Repr

/-- The level of a strap pin (R163). -/
inductive PinLevel where
  | low
  | high
deriving DecidableEq, Repr

/-- The steps of the part. A request row carries no operand: it decodes the oldest accepted frame of
the inbound buffer, whose bytes hold the request's fields (R169, R185, R188; log 1). -/
inductive Instr where
  /-- RECEIVE_BYTE (R165): a good byte arrives on RXD. -/
  | receiveByte (b : Byte)
  /-- FRAMING_ERROR (R164). -/
  | framingError
  /-- FRAME_IDLE_TIMEOUT (R166). -/
  | frameIdleTimeout
  /-- UNKNOWN_KIND_REQUEST (R170). -/
  | unknownKindRequest
  /-- STATUS (R170). -/
  | status
  /-- RESTART (R178). -/
  | restart
  /-- SERVICE_ON (R176). -/
  | serviceOn
  /-- SERVICE_OFF (R177). -/
  | serviceOff
  /-- ALERT_CLEAR (R184). -/
  | alertClear
  /-- ALERT_MASK (R182). -/
  | alertMask
  /-- RATE_TABLE (R41). -/
  | rateTable
  /-- TRACK_SETUP (R43). -/
  | trackSetup
  /-- CLASS_PROFILE (R16). -/
  | classProfile
  /-- ENERGY_TABLE (R63). -/
  | energyTable
  /-- PASS_SETUP (R106). -/
  | passSetup
  /-- ADMIT (R7). -/
  | admission
  /-- RELEASE (R9). -/
  | release
  /-- SUSPEND (R10). -/
  | suspend
  /-- RESUME (R11). -/
  | resume
  /-- LINK_UPDATE (R13). -/
  | linkUpdate
  /-- SUBSCRIBER_READ (R19). -/
  | subscriberRead
  /-- FRAME_MARK (R81). -/
  | frameMark
  /-- QUALITY_BATCH (R22). `entries` is how many of the entries still untaken are taken before another
  step may fall between two entries (R23; log 4); the batch is answered when the last one is taken. -/
  | qualityBatch (entries : Nat)
  /-- QUEUE_BATCH (R50); `entries` as for QUALITY_BATCH. -/
  | queueBatch (entries : Nat)
  /-- OUTCOME_BATCH (R55); `entries` as for QUALITY_BATCH. -/
  | outcomeBatch (entries : Nat)
  /-- ENERGY_REPORT (R66). -/
  | energyReport
  /-- MONITOR_SETUP targeting a monitor, or refused (R158). -/
  | monitorSetup
  /-- MONITOR_SETUP targeting the capture buffer (R159). -/
  | monitorSetupBuffer
  /-- COUNTER_READ (R160). -/
  | counterRead
  /-- CAPTURE_READ (R161). -/
  | captureRead
  /-- TRACE_READ (R157). -/
  | traceRead
  /-- TRACE_RESUME (R157). -/
  | traceResume
  /-- MESSAGE_SENT (R133): the last byte of the message on TXD has been sent. -/
  | messageSent
  /-- POWER_ON (R179), with the strap levels sampled at its end (R163). -/
  | powerOn (baud1 baud0 : PinLevel)
  /-- RESET_LINE_ASSERT (R179). -/
  | resetLineAssert
  /-- RESET_LINE_RELEASE (R179), with the strap levels sampled (R163). -/
  | resetLineRelease (baud1 baud0 : PinLevel)
  /-- RESTART_RESET (R178), with the strap levels sampled (R163). -/
  | restartReset (baud1 baud0 : PinLevel)
  /-- CONSTRUCT_SLOT (R84). -/
  | constructSlot
  /-- PLACE_CANDIDATE (R111) by the Placer of `dir`. `begun`: when a truncation cause stands, whether
  the Placer had taken its next candidate up before the truncation was taken, and so finishes it
  (R97; log 3). It is not read while no cause stands. -/
  | placeCandidate (dir : Direction) (begun : Bool)
  /-- DEADLINE_EXPIRY (R96). -/
  | deadlineExpiry
  /-- LINE_RETURN_TO_IDLE (R164). -/
  | lineReturnToIdle
deriving DecidableEq, Repr

end Sys2Proof
end

