-- ==== Sys2Proof/Decode.lean ====
section
/-! DEFINITION. Words to commands. No row of spec/opcode_table.json gives bits (its "fields" are empty
and no row has a match or a mask), so no word spells a command (log 27). The bytes of requests are
decoded by the machine itself, as the manual has it (Machine/Reception.lean,
Machine/Requests.lean, Machine/Operands.lean). -/

namespace Sys2Proof

/-- The command that a word of `nbits` bits spells by the table: none, for every word. -/
def decodeTableWord (_nbits _w : Nat) : Option Instr := none

end Sys2Proof
end

