-- ==== Sys2Proof/Config.lean ====
section
/-! DEFINITION. What is fixed for the part (sizes and limits the manual states) and the one free value. -/

namespace Sys2Proof.Config

/-- Slots of the Subscriber Table (01 section 1.1). -/
abbrev slotCount : Nat := 96

/-- Bytes of the inbound buffer (R168). -/
abbrev inboundBytes : Nat := 4096

/-- The largest body length of a frame (R166). -/
abbrev maxBody : Nat := 1020

/-- Answers the answer queue holds (R173). -/
abbrev answerCapacity : Nat := 16

/-- Entries of the general section (R132). -/
abbrev generalCapacity : Nat := 24

/-- Entries of the grant section (R132). R140 shows that it never fills, so nothing tests it. -/
abbrev grantCapacity : Nat := 100

/-- Records of the capture buffer (R154). -/
abbrev captureCapacity : Nat := 16

/-- Entries of the decision trace (R156). -/
abbrev traceCapacity : Nat := 16

/-- The largest entry count of a batch (R170, R188). -/
abbrev maxBatch : Nat := 32

/-- Tiles of one carrier in one direction (00 "Tiles and carriers"). -/
abbrev carrierTiles : Nat := 24

/-- The largest backlog, and the largest average throughput (R46, R80). -/
abbrev maxBacklog : Nat := 1048575

/-- Where the reading age stops (R62). -/
abbrev maxReadingAge : Nat := 65536

/-- FREE VALUE (log 5). R174: an answer and a notice offered to a free line in one taking "may be
offered either way round"; true when the notice of the n-th such meeting is offered first. -/
opaque noticeOfferedFirst : Nat → Bool

end Sys2Proof.Config
end

