-- ==== Sys2Proof/Machine/Types.lean ====
section
/-! DEFINITION. The data the GS40's blocks hold: records, enumerations and messages, as plain data. -/

namespace Sys2Proof.Machine

/-- A thing held once per direction (00 "Directions"). -/
structure PerDir (α : Type) where
  dl : α
  ul : α
deriving DecidableEq, Repr

/-- A subscriber handle slot:gen (R3). On the link a slot above 95 can be written; it is never live. -/
structure Handle where
  slot : Nat
  gen : Byte
deriving DecidableEq, Repr

/-! ### Subscriber record (01, 02, 03, 05) -/

/-- Lifecycle state of a slot that is not FREE (R2). -/
inductive Life where
  | active
  | suspended
  | lost
deriving DecidableEq, Repr

/-- State of the fade detector (R21). -/
inductive FadeState where
  | steady
  | entering
  | faded
  | leaving
deriving DecidableEq, Repr

/-- One quality track (R21). F, L and O are in sixteenths of q. -/
structure Track where
  f : Nat
  l : Nat
  fade : FadeState
  debounce : Nat
  fadeSamples : Nat
  settle : Nat
  offset : Int
  poor : Nat
  lastSample : U32
  aRef : Option Nat
deriving DecidableEq, Repr

/-- Kind of a grant, of a candidate and of a history entry (R47, R89). -/
inductive GrantKind where
  | data
  | poll
deriving DecidableEq, Repr

/-- What has been reported of a grant (R47). -/
inductive DeliveryState where
  | pending
  | delivered
  | failed
deriving DecidableEq, Repr

/-- One position of a history ring (R47). -/
structure HistoryEntry where
  written : Bool
  frame : U16
  kind : GrantKind
  tiles : Nat
  served : Nat
  outcome : DeliveryState
deriving DecidableEq, Repr

/-- One demand group (R46). -/
structure Demand where
  backlog : Nat
  stamp : Option U16
  ring : Vector HistoryEntry 4
deriving DecidableEq, Repr

/-- One service group (R80). -/
structure Service where
  avg : Nat
  credit : Int
  starve : Nat
  shortfall : Nat
  lastGrant : Option U32
deriving DecidableEq, Repr

/-- The record of a subscriber: the four groups of section 1.1 (R2). The generation belongs to the slot. -/
structure Subscriber where
  life : Life
  cls : Fin 8
  dlCost : Nat
  ulCap : Nat
  timing : Nat
  anchor : Option Handle
  anchorWeight : Nat
  admitIndex : U32
  alerts : BitVec 7
  tracks : PerDir Track
  demand : PerDir Demand
  service : PerDir Service
deriving DecidableEq, Repr

/-- One slot: FREE exactly when it holds no record (R2). -/
structure Slot where
  gen : Byte
  sub : Option Subscriber
deriving DecidableEq, Repr

/-! ### Tables and setups -/

/-- Kind of a class (R16). -/
inductive ClassKind where
  | emergency
  | guaranteed
  | bestEffort
deriving DecidableEq, Repr

/-- A class profile (01 section 1.9). -/
structure Profile where
  kind : ClassKind
  weight : Nat
  rate : PerDir Nat
  maxTiles : PerDir Nat
  minTiles : Nat
  poll : Nat
  defer : Nat
deriving DecidableEq, Repr

/-- One step of the rate table: bytes per tile and threshold in q (R39). -/
structure RateStep where
  r : Nat
  threshold : Nat
deriving DecidableEq, Repr

/-- The track setup (02 section 2.10). -/
structure TrackSetup where
  bf : Nat
  bl : Nat
  settle : Nat
  tEnter : Nat
  tExit : Nat
  dEnter : Nat
  dExit : Nat
  fadeTimeout : Nat
  dn : Nat
  up : Nat
  poorLimit : Nat
deriving DecidableEq, Repr

/-- The energy table (04 section 4.2). `bounds` is b1..b4, `budgets` B1..B5, `carriers` C1..C5. -/
structure EnergyTable where
  bounds : Vector Nat 4
  hysteresis : Nat
  budgets : Vector Nat 5
  carriers : Vector Nat 5
  slew : Nat
  riseJump : Bool
  fallJump : Bool
  graded : Bool
  lift : Bool
deriving DecidableEq, Repr

/-- The Energy Budget Controller (R62). -/
structure Energy where
  table : EnergyTable
  segment : Nat
  reading : Option Nat
  age : Nat
  stale : Bool
  active : Nat
deriving DecidableEq, Repr

/-- The pass setup (05 section 5.9). -/
structure PassSetup where
  deadline : Nat
  k : Nat
  chunk : Nat
  guard : Nat
  staleLimit : Nat
  lostLimit : Nat
  stalePenalty : Nat
  energyTimeout : Nat
  starveLimit : Nat
  shortfallLimit : Nat
deriving DecidableEq, Repr

/-- The pass allowance (R73). -/
structure Allowance where
  budget : Nat
  carriers : Nat
  segment : Nat
deriving DecidableEq, Repr

/-! ### The pass (05, 06) -/

/-- What a candidate is ordered by within its tier (R94). -/
inductive OrderKey where
  | tie
  | credit (c : Int)
  | metric (m : Nat)
deriving DecidableEq, Repr

/-- The snapshot of a candidate (R89). `dlCost` is 0 on the UL list, `ulCap` is 0 and `extended` false
on the DL list, where the snapshot has no such field (log 18). -/
structure Candidate where
  handle : Handle
  kind : GrantKind
  cls : Fin 8
  tier : Nat
  key : OrderKey
  rateStep : Nat
  r : Nat
  fade : FadeState
  backlog : Nat
  maxTiles : Nat
  minTiles : Nat
  dlCost : Nat
  ulCap : Nat
  extended : Bool
deriving DecidableEq, Repr

/-- The grant part of a slot view (R90). -/
structure GrantView where
  tiles : Nat
  payload : Nat
deriving DecidableEq, Repr

/-- The slot view of one slot (R90). -/
structure SlotView where
  seen : Option Handle
  active : Bool
  backlog : PerDir Nat
  grant : PerDir (Option GrantView)
deriving DecidableEq, Repr

/-- Pass stage (R79). -/
inductive PassStage where
  | idle
  | constructing
  | placing
deriving DecidableEq, Repr

/-- Truncation cause of a pass; `none` is the Option's (R79). -/
inductive Cause where
  | deadline
  | preempted
  | stopped
deriving DecidableEq, Repr

/-- The deadline timer (R79, R96). -/
inductive TimerState where
  | idle
  | running
  | expired
deriving DecidableEq, Repr

/-- The Ranker (R79). `nextSlot` is the slot construction comes to next, 96 when it has passed slot 95. -/
structure Ranker where
  passIndex : U32
  newest : Option U16
  stage : PassStage
  cause : Option Cause
  timer : TimerState
  setup : PassSetup
  setupCopy : PassSetup
  profileCopy : Vector Profile 8
  lists : PerDir (List Candidate)
  views : Vector SlotView 96
  nextSlot : Nat
  allowance : Allowance
deriving DecidableEq, Repr

/-- Why a Placer ended (R128). -/
inductive EndReason where
  | stopped
  | listDone
  | poolEmpty
deriving DecidableEq, Repr

/-- Placer stage (R109). -/
inductive PlacerStage where
  | idle
  | running
  | ended (why : EndReason)
deriving DecidableEq, Repr

/-- One Placer (R109). The remaining budget and the pq spent are the DL Placer's alone and stand in
`State`. `next` counts positions from 1. -/
structure Placer where
  stage : PlacerStage
  list : List Candidate
  next : Nat
  carriers : Nat
  ptrCarrier : Nat
  ptrTile : Nat
  pool : Nat
  grants : Nat
  tiles : Nat
  guards : Nat
  reached : Nat
deriving DecidableEq, Repr

/-- A run of tiles in one carrier, with its guard flag (R120, R121). -/
structure Run where
  carrier : Nat
  first : Nat
  count : Nat
  guarded : Bool
deriving DecidableEq, Repr

/-- A grant record (R126). -/
structure GrantRecord where
  frame : U16
  dir : Direction
  handle : Handle
  tier : Nat
  kind : GrantKind
  rateStep : Nat
  run1 : Run
  run2 : Option Run
  payload : Nat
deriving DecidableEq, Repr

/-! ### Notices (07) -/

/-- A GRANT_CHUNK (R135). -/
structure GrantChunk where
  frame : U16
  dir : Direction
  seq : Nat
  records : List GrantRecord
deriving DecidableEq, Repr

/-- Why a pass completed, as MAP_END reports it (R101). -/
inductive MapCause where
  | complete
  | deadline
  | preempted
  | stopped
deriving DecidableEq, Repr

/-- The figures of one direction in a MAP_END (R138). -/
structure MapFigures where
  grants : Nat
  tiles : Nat
  guards : Nat
  unreached : Nat
deriving DecidableEq, Repr

/-- A MAP_END (R138). -/
structure MapEnd where
  frame : U16
  cause : MapCause
  figures : PerDir MapFigures
  budget : Nat
  spent : Nat
  segment : Nat
  carriers : Nat
deriving DecidableEq, Repr

/-- A notice of the grant section (R132). -/
inductive GrantNotice where
  | chunk (c : GrantChunk)
  | mapEnd (m : MapEnd)
deriving DecidableEq, Repr

/-- The ten device alert kinds (R180). -/
inductive DeviceAlert where
  | restarted
  | deadline
  | energyStale
  | monitorOverflow
  | captureFull
  | linkCrc
  | linkFraming
  | linkOverrun
  | noticeLost
  | mapPurged
deriving DecidableEq, Repr

/-- The seven members of a subscriber's alert set (R18, R180). -/
inductive Member where
  | lost
  | linkPoor (d : Direction)
  | starved (d : Direction)
  | shortfall (d : Direction)
deriving DecidableEq, Repr

/-- The fourteen alert kinds (R180). -/
inductive AlertKind where
  | device (a : DeviceAlert)
  | lost
  | linkPoor
  | starved
  | shortfall
deriving DecidableEq, Repr

/-- An ALERT_NOTICE (R181). -/
structure AlertNotice where
  kind : AlertKind
  handle : Option Handle
  dir : Option Direction
  frame : Option U16
deriving DecidableEq, Repr

/-- A CAPTURE_NOTICE (R155). -/
structure CaptureNotice where
  held : Nat
  frame : Option U16
deriving DecidableEq, Repr

/-- A notice of the general section (R132). -/
inductive GeneralNotice where
  | alert (a : AlertNotice)
  | capture (c : CaptureNotice)
deriving DecidableEq, Repr

/-- Transmission mark of a notice (R132). -/
inductive Mark where
  | waiting
  | sending
deriving DecidableEq, Repr

/-- An entry of the grant section, with the pass index of the pass that produced it (R132). -/
structure GrantEntry where
  notice : GrantNotice
  mark : Mark
  passIndex : U32
deriving DecidableEq, Repr

/-- An entry of the general section (R132). -/
structure GeneralEntry where
  notice : GeneralNotice
  mark : Mark
deriving DecidableEq, Repr

/-- Assembler stage (R134). -/
inductive AssemblerStage where
  | idle
  | opened
  | closed
deriving DecidableEq, Repr

/-- A chunk assembler (R134). -/
structure Assembler where
  stage : AssemblerStage
  frame : U16
  passIndex : U32
  chunk : Nat
  pending : List GrantRecord
  seq : Nat
deriving DecidableEq, Repr

/-! ### Monitor Unit (08) -/

/-- The thirteen event kinds (R144). -/
inductive EventKind where
  | grant
  | pollGrant
  | skipPower
  | skipSliver
  | skipGone
  | unreached
  | truncation
  | fadeEnter
  | fadeReseed
  | outcomeFailed
  | reportStale
  | lostEnter
  | frameGap
deriving DecidableEq, Repr

/-- The subscriber an event names, with the class it carries (R144). -/
structure Subject where
  handle : Handle
  cls : Fin 8
deriving DecidableEq, Repr

/-- An event (R144). -/
structure Event where
  kind : EventKind
  dir : Option Direction
  who : Option Subject
  frame : Option U16
deriving DecidableEq, Repr

/-- A monitor's direction filter (R146). -/
inductive DirFilter where
  | dl
  | ul
  | both
deriving DecidableEq, Repr

/-- A monitor's selected overflow actions (R146). -/
structure Actions where
  alert : Bool
  capture : Bool
  freeze : Bool
deriving DecidableEq, Repr

/-- A programmable monitor (R146). -/
structure Monitor where
  enable : Bool
  kind : EventKind
  filter : DirFilter
  classMask : BitVec 8
  who : Option Handle
  v : U32
  actions : Actions
  count : U32
  overflow : Bool
  armed : Bool
deriving DecidableEq, Repr

/-- The snapshot of a capture record (R153). -/
structure CaptureSnapshot where
  cls : Fin 8
  life : Life
  rateStep : Nat
  f : Nat
  l : Nat
  fade : FadeState
  offset : Int
  backlog : Nat
  credit : Int
  avg : Nat
  segment : Nat
  active : Nat
deriving DecidableEq, Repr

/-- A capture record (R153). -/
structure CaptureRecord where
  monitor : Nat
  kind : EventKind
  frame : Option U16
  dir : Option Direction
  handle : Option Handle
  snapshot : Option CaptureSnapshot
deriving DecidableEq, Repr

/-- Policy of the capture buffer (R154). -/
inductive Policy where
  | stop
  | wrap
deriving DecidableEq, Repr

/-- Result of a decision in the trace (R127). -/
inductive TraceResult where
  | granted
  | poll
  | skipPower
  | skipSliver
  | skipGone
deriving DecidableEq, Repr

/-- An entry of the decision trace (R156). -/
structure TraceEntry where
  frame : U16
  dir : Direction
  handle : Handle
  result : TraceResult
  tiles : Nat
  tier : Nat
deriving DecidableEq, Repr

/-- The Monitor Unit (08). -/
structure MonitorUnit where
  passes : U32
  dlTiles : U32
  ulTiles : U32
  monitors : Vector Monitor 4
  policy : Policy
  threshold : Nat
  records : List CaptureRecord
  frozen : Bool
  trace : List TraceEntry
deriving DecidableEq, Repr

/-! ### Control link (09, 10) -/

/-- The frame receiver (R165) with the bytes of the frame in reception that are stored (R168). -/
inductive Receiver where
  | hunt
  | sync
  | header (got : List Byte)
  | body (kind tag : Byte) (len : Nat) (got : List Byte)
  | check (kind tag : Byte) (got : List Byte) (crcHigh : Option Byte)
deriving DecidableEq, Repr

/-- A frame accepted and held in the inbound buffer (R167). -/
structure Frame where
  kind : Byte
  tag : Byte
  body : List Byte
deriving DecidableEq, Repr

/-- Result codes (R171). -/
inductive Result where
  | ok
  | partialBatch
  | badLength
  | badField
  | unknownKind
  | wrongState
  | busy
  | noSlot
  | unknownHandle
  | duplicateFrame
  | outOfOrderFrame
deriving DecidableEq, Repr

/-- Reasons of refused batch entries (R171). -/
inductive Reason where
  | unknownHandle
  | stale
  | future
  | noGrant
  | alreadyReported
deriving DecidableEq, Repr

/-- A refused entry of a batch answer (R171). -/
structure Refused where
  index : Nat
  reason : Reason
deriving DecidableEq, Repr

/-- Device state (R175). -/
inductive DeviceState where
  | config
  | service
deriving DecidableEq, Repr

/-- The status summary of an answer (R172). -/
structure Summary where
  device : DeviceState
  inFlight : Bool
  newest : Option U16
  segment : Nat
  carriers : Nat
  active : Nat
  live : Nat
  alerts : BitVec 10
  subscriberAlert : Bool
deriving DecidableEq, Repr

/-- What SUBSCRIBER_READ computes and returns for a slot that is not FREE (R19). -/
structure SubscriberRead where
  handle : Handle
  sub : Subscriber
  anchorLive : Bool
  age : PerDir Nat
  quality : PerDir Nat
  rateStep : PerDir Nat
deriving DecidableEq, Repr

/-- What COUNTER_READ returns (R160). -/
structure CounterRead where
  passes : U32
  dlTiles : U32
  ulTiles : U32
  monitors : Vector Monitor 4
  frozen : Bool
  policy : Policy
  threshold : Nat
  held : Nat
deriving DecidableEq, Repr

/-- The data part of an answer (R188). -/
inductive AnswerData where
  | empty
  | admitted (h : Handle)
  | batch (accepted : Nat) (refused : List Refused)
  | freeSlot (slot : Nat) (gen : Byte)
  | record (r : SubscriberRead)
  | counters (c : CounterRead)
  | trace (frozen : Bool) (entries : List TraceEntry)
  | captures (held : Nat) (records : List CaptureRecord)
deriving DecidableEq, Repr

/-- An answer (R171, R172, R188). `kind` is the kind code of its request. -/
structure Answer where
  kind : Byte
  tag : Byte
  result : Result
  summary : Summary
  data : AnswerData
deriving DecidableEq, Repr

/-- A batch between two of its entries: entries taken, accepted, and refused so far (R23, R171). -/
structure BatchProgress where
  taken : Nat
  accepted : Nat
  refused : List Refused
deriving DecidableEq, Repr

/-- The decoding under way, if any: its frame stays at the head of the accepted frames until its answer
joins the queue (R169). -/
inductive Decoding where
  | idle
  | frameMark (frame : U16)
  | serviceOff
  | batch (p : BatchProgress)
deriving DecidableEq, Repr

/-- How far an accepted RESTART is (R178): none, its answer not yet wholly sent, its reset due. -/
inductive RestartPhase where
  | none
  | answerQueued
  | resetDue
deriving DecidableEq, Repr

/-- Where an outbound message comes from (R174). -/
inductive Source where
  | answers
  | grants
  | general
deriving DecidableEq, Repr

/-- The message on TXD: its source, and its frame as sent (R174, R186). -/
structure Transmission where
  source : Source
  bytes : List Byte
deriving DecidableEq, Repr

/-- The bit rate of the line (R163). -/
inductive LineRate where
  | mbaud3
  | mbaud6
  | mbaud12
deriving DecidableEq, Repr

/-- The Link Interface (09). -/
structure Link where
  baud1 : PinLevel
  baud0 : PinLevel
  lineRate : LineRate
  resetHeld : Bool
  rxAwaitIdle : Bool
  rx : Receiver
  accepted : List Frame
  decoding : Decoding
  answers : List Answer
  device : DeviceState
  alerts : BitVec 10
  mask : BitVec 14
  restart : RestartPhase
  tx : Option Transmission
deriving DecidableEq, Repr

/-- The Notice Queue (R132, R134). -/
structure Notices where
  grants : List GrantEntry
  general : List GeneralEntry
  assemblers : PerDir Assembler
deriving DecidableEq, Repr

end Sys2Proof.Machine
end

