-- ==== Sys2Proof/Machine/ResetValues.lean ====
section
/-! DEFINITION. The values each block takes at a device reset (R17, R20, R40, R45, R61, R77, R108, R131,
R143, R162, R179), before RESTARTED is latched. -/

namespace Sys2Proof.Machine

/-- The same value in both directions. -/
def PerDir.both {α : Type} (a : α) : PerDir α := ⟨a, a⟩

/-- A FREE slot of generation 0 (R20). -/
def resetSlot : Slot := ⟨0#8, none⟩

/-- A class profile after reset (R17). -/
def resetProfile : Profile :=
  { kind := .bestEffort, weight := 4, rate := .both 0, maxTiles := .both 12, minTiles := 1,
    poll := 0, defer := 1 }

/-- The rate table after reset (R40). -/
def resetRateTable : Vector RateStep 12 :=
  #v[⟨6, 8⟩, ⟨12, 16⟩, ⟨24, 24⟩, ⟨36, 32⟩, ⟨48, 40⟩, ⟨60, 48⟩,
     ⟨80, 56⟩, ⟨100, 64⟩, ⟨120, 72⟩, ⟨150, 84⟩, ⟨180, 96⟩, ⟨216, 108⟩]

/-- The track setup after reset (02 section 2.10, R45). -/
def resetTrackSetup : TrackSetup :=
  { bf := 2, bl := 7, settle := 4, tEnter := 12, tExit := 6, dEnter := 3, dExit := 3,
    fadeTimeout := 60, dn := 16, up := 2, poorLimit := 8 }

/-- The energy table after reset (04 section 4.2, R77). -/
def resetEnergyTable : EnergyTable :=
  { bounds := #v[200, 150, 100, 50], hysteresis := 8,
    budgets := #v[60000, 40000, 24000, 12000, 4000], carriers := #v[2, 2, 2, 1, 1],
    slew := 2000, riseJump := false, fallJump := true, graded := false, lift := true }

/-- The Energy Budget Controller after reset (R77). -/
def resetEnergy : Energy :=
  { table := resetEnergyTable, segment := 5, reading := none, age := 0, stale := false,
    active := 4000 }

/-- The pass setup after reset (05 section 5.9, R108). -/
def resetPassSetup : PassSetup :=
  { deadline := 800, k := 5, chunk := 8, guard := 130, staleLimit := 20, lostLimit := 400,
    stalePenalty := 8, energyTimeout := 2000, starveLimit := 50, shortfallLimit := 100 }

/-- A cleared slot view (R83, R90, R108). -/
def clearedView : SlotView :=
  { seen := none, active := false, backlog := .both 0, grant := .both none }

/-- The Ranker after reset (R108). The copies are "not in use" then; what they and the allowance hold
meanwhile is the model's choice (log 9). -/
def resetRanker : Ranker :=
  { passIndex := 0#32, newest := none, stage := .idle, cause := none, timer := .idle,
    setup := resetPassSetup, setupCopy := resetPassSetup,
    profileCopy := Vector.replicate 8 resetProfile, lists := .both [],
    views := Vector.replicate 96 clearedView, nextSlot := 0, allowance := ⟨0, 1, 5⟩ }

/-- A Placer after reset (R131). -/
def resetPlacer : Placer :=
  { stage := .idle, list := [], next := 1, carriers := 1, ptrCarrier := 0, ptrTile := 0, pool := 0,
    grants := 0, tiles := 0, guards := 0, reached := 0 }

/-- A chunk assembler after reset (R143); its frame, pass index and chunk size are "undefined until
their first opening", and hold the model's values 0, 0 and 8 (log 8). -/
def resetAssembler : Assembler :=
  { stage := .idle, frame := 0#16, passIndex := 0#32, chunk := 8, pending := [], seq := 0 }

/-- The Notice Queue after reset (R143). -/
def resetNotices : Notices :=
  { grants := [], general := [], assemblers := .both resetAssembler }

/-- A monitor after reset (R162). -/
def resetMonitor : Monitor :=
  { enable := false, kind := .grant, filter := .both, classMask := 0xFF#8, who := none, v := 1#32,
    actions := ⟨false, false, false⟩, count := 0#32, overflow := false, armed := false }

/-- The Monitor Unit after reset (R162). -/
def resetMonitorUnit : MonitorUnit :=
  { passes := 0#32, dlTiles := 0#32, ulTiles := 0#32, monitors := Vector.replicate 4 resetMonitor,
    policy := .stop, threshold := 8, records := [], frozen := false, trace := [] }

/-- The bit rate the straps select (R163). -/
def lineRateOf : PinLevel → PinLevel → LineRate
  | .low, .low => .mbaud3
  | .low, .high => .mbaud6
  | .high, _ => .mbaud12

/-- The Link Interface after reset with the straps sampled (R179), before RESTARTED is latched. -/
def resetLink (baud1 baud0 : PinLevel) : Link :=
  { baud1 := baud1, baud0 := baud0, lineRate := lineRateOf baud1 baud0, resetHeld := false,
    rxAwaitIdle := false, rx := .hunt, accepted := [], decoding := .idle, answers := [],
    device := .config, alerts := 0#10, mask := 0#14, restart := .none, tx := none }

/-- The ALERT_NOTICE of RESTARTED, with no frame (R179). -/
def restartedNotice : GeneralNotice :=
  .alert { kind := .device .restarted, handle := none, dir := none, frame := none }

end Sys2Proof.Machine
end

