-- ==== Sys2Proof/Machine/Bytes.lean ====
section
/-! DEFINITION. How numbers stand in bytes on the control link (R185), and the CRC of a frame (R186). -/

namespace Sys2Proof.Machine

/-- A one-byte number. -/
def byte1 (n : Nat) : List Byte := [BitVec.ofNat 8 n]

/-- A two-byte number, most significant byte first (R185). -/
def byte2 (n : Nat) : List Byte := [BitVec.ofNat 8 (n / 256), BitVec.ofNat 8 n]

/-- A four-byte number, most significant byte first (R185). -/
def byte4 (n : Nat) : List Byte := byte2 (n / 65536) ++ byte2 n

/-- A signed two-byte field, in two's complement (R185). -/
def signed2 (x : Int) : List Byte := byte2 (BitVec.ofInt 16 x).toNat

/-- A signed four-byte field, in two's complement (R185). -/
def signed4 (x : Int) : List Byte := byte4 (BitVec.ofInt 32 x).toNat

/-- A flag byte: 0 off or absent, 1 on or present (10 section 10.8). -/
def flag1 (b : Bool) : List Byte := [if b then 1#8 else 0#8]

/-- `n` bytes of 0: a field that is absent (R185). -/
def zeros (n : Nat) : List Byte := List.replicate n 0#8

/-- The number a Bool contributes at bit `i` of a flag byte. -/
def bitAt (i : Nat) (b : Bool) : Nat := if b then 2 ^ i else 0

/-- One step of the CRC register: shift left, and combine with 0x1021 when the bit shifted out was 1 (R186). -/
def crcShift (c : U16) : U16 :=
  if c.toNat < 32768 then c <<< 1 else (c <<< 1) ^^^ 0x1021#16

/-- One byte into the CRC register (R186). -/
def crcByte (c : U16) (b : Byte) : U16 :=
  Nat.iterate crcShift 8 (c ^^^ (b.setWidth 16 <<< 8))

/-- The CRC over a list of bytes, from 0xFFFF (R186). -/
def crc (bytes : List Byte) : U16 := bytes.foldl crcByte 0xFFFF#16

/-- The bytes a frame's CRC covers: kind, tag, both length bytes, body (R186). -/
def frameCovered (kind tag : Byte) (body : List Byte) : List Byte :=
  kind :: tag :: (byte2 body.length ++ body)

/-- A whole frame: the sync pair, the covered bytes, the CRC high byte first (10 section 10.2). -/
def frameBytes (kind tag : Byte) (body : List Byte) : List Byte :=
  0xC3#8 :: 0x3C#8 :: (frameCovered kind tag body ++ byte2 (crc (frameCovered kind tag body)).toNat)

end Sys2Proof.Machine
end

