-- ==== Sys2Proof/Machine/Codes.lean ====
section
/-! DEFINITION. The code values of section 10.8 and the kind codes of R187, in both directions where a
request carries them. -/

namespace Sys2Proof.Machine

/-! ### Kind codes of requests (R187) -/

/-- The requests of R187's table. -/
inductive Request where
  | status
  | restart
  | serviceOn
  | serviceOff
  | alertClear
  | alertMask
  | rateTable
  | trackSetup
  | classProfile
  | energyTable
  | passSetup
  | admission
  | release
  | suspend
  | resume
  | linkUpdate
  | subscriberRead
  | frameMark
  | qualityBatch
  | queueBatch
  | outcomeBatch
  | energyReport
  | monitorSetup
  | counterRead
  | captureRead
  | traceRead
  | traceResume
deriving DecidableEq, Repr

/-- The kind code of a request (R187). -/
def Request.code : Request → Byte
  | .status => 0x01#8
  | .restart => 0x02#8
  | .serviceOn => 0x03#8
  | .serviceOff => 0x04#8
  | .alertClear => 0x05#8
  | .alertMask => 0x06#8
  | .rateTable => 0x08#8
  | .trackSetup => 0x09#8
  | .classProfile => 0x0A#8
  | .energyTable => 0x0B#8
  | .passSetup => 0x0C#8
  | .admission => 0x10#8
  | .release => 0x11#8
  | .suspend => 0x12#8
  | .resume => 0x13#8
  | .linkUpdate => 0x14#8
  | .subscriberRead => 0x15#8
  | .frameMark => 0x18#8
  | .qualityBatch => 0x19#8
  | .queueBatch => 0x1A#8
  | .outcomeBatch => 0x1B#8
  | .energyReport => 0x1C#8
  | .monitorSetup => 0x20#8
  | .counterRead => 0x21#8
  | .captureRead => 0x22#8
  | .traceRead => 0x23#8
  | .traceResume => 0x24#8

/-- Every request of R187's table. -/
def Request.all : List Request :=
  [.status, .restart, .serviceOn, .serviceOff, .alertClear, .alertMask, .rateTable, .trackSetup,
   .classProfile, .energyTable, .passSetup, .admission, .release, .suspend, .resume, .linkUpdate,
   .subscriberRead, .frameMark, .qualityBatch, .queueBatch, .outcomeBatch, .energyReport,
   .monitorSetup, .counterRead, .captureRead, .traceRead, .traceResume]

/-- Whether a kind byte names a request (R170 step 1, R187). -/
def isRequestKind (k : Byte) : Bool := Request.all.any fun q => q.code == k

/-- The kind byte of an answer: its request's with the most significant bit set (R187). -/
def answerKind (k : Byte) : Byte := k ||| 0x80#8

/-- Kind of a GRANT_CHUNK (R187). -/
def kindGrantChunk : Byte := 0x60#8
/-- Kind of a MAP_END (R187). -/
def kindMapEnd : Byte := 0x61#8
/-- Kind of an ALERT_NOTICE (R187). -/
def kindAlertNotice : Byte := 0x62#8
/-- Kind of a CAPTURE_NOTICE (R187). -/
def kindCaptureNotice : Byte := 0x63#8

/-! ### Codes the part sends (10 section 10.8) -/

/-- Result code. -/
def Result.code : Result → Nat
  | .ok => 0
  | .partialBatch => 1
  | .badLength => 2
  | .badField => 3
  | .unknownKind => 4
  | .wrongState => 5
  | .busy => 6
  | .noSlot => 7
  | .unknownHandle => 8
  | .duplicateFrame => 9
  | .outOfOrderFrame => 10

/-- Reason code of a refused entry. -/
def Reason.code : Reason → Nat
  | .unknownHandle => 1
  | .stale => 2
  | .future => 3
  | .noGrant => 4
  | .alreadyReported => 5

/-- Device state code (10 "The status summary"). -/
def DeviceState.code : DeviceState → Nat
  | .config => 0
  | .service => 1

/-- Direction code. -/
def dirCode : Direction → Nat
  | .dl => 0
  | .ul => 1

/-- Lifecycle state code of a slot that is not FREE (FREE is 0). -/
def Life.code : Life → Nat
  | .active => 1
  | .suspended => 2
  | .lost => 3

/-- Fade state code. -/
def FadeState.code : FadeState → Nat
  | .steady => 0
  | .entering => 1
  | .faded => 2
  | .leaving => 3

/-- History kind code. -/
def GrantKind.code : GrantKind → Nat
  | .data => 0
  | .poll => 1

/-- Outcome code of a history entry. -/
def DeliveryState.code : DeliveryState → Nat
  | .pending => 0
  | .delivered => 1
  | .failed => 2

/-- Map-end cause code. -/
def MapCause.code : MapCause → Nat
  | .complete => 0
  | .deadline => 1
  | .preempted => 2
  | .stopped => 3

/-- Trace result code. -/
def TraceResult.code : TraceResult → Nat
  | .granted => 0
  | .poll => 1
  | .skipPower => 2
  | .skipSliver => 3
  | .skipGone => 4

/-- Event kind code. -/
def EventKind.code : EventKind → Nat
  | .grant => 0
  | .pollGrant => 1
  | .skipPower => 2
  | .skipSliver => 3
  | .skipGone => 4
  | .unreached => 5
  | .truncation => 6
  | .fadeEnter => 7
  | .fadeReseed => 8
  | .outcomeFailed => 9
  | .reportStale => 10
  | .lostEnter => 11
  | .frameGap => 12

/-- Code and bit position of a device alert kind. -/
def DeviceAlert.code : DeviceAlert → Nat
  | .restarted => 0
  | .deadline => 1
  | .energyStale => 2
  | .monitorOverflow => 3
  | .captureFull => 4
  | .linkCrc => 5
  | .linkFraming => 6
  | .linkOverrun => 7
  | .noticeLost => 8
  | .mapPurged => 9

/-- Code and bit position of an alert kind. -/
def AlertKind.code : AlertKind → Nat
  | .device a => a.code
  | .lost => 10
  | .linkPoor => 11
  | .starved => 12
  | .shortfall => 13

/-- Bit of a member in the subscriber's alert set bitmap (10 section 10.6). -/
def Member.bit : Member → Nat
  | .lost => 0
  | .linkPoor .dl => 1
  | .linkPoor .ul => 2
  | .starved .dl => 3
  | .starved .ul => 4
  | .shortfall .dl => 5
  | .shortfall .ul => 6

/-- The kind a member belongs to (R180). -/
def Member.kind : Member → AlertKind
  | .lost => .lost
  | .linkPoor _ => .linkPoor
  | .starved _ => .starved
  | .shortfall _ => .shortfall

/-- The direction of a directional member (R181). -/
def Member.dir : Member → Option Direction
  | .lost => none
  | .linkPoor d => some d
  | .starved d => some d
  | .shortfall d => some d

/-- Every member of an alert set (R18). -/
def Member.all : List Member :=
  [.lost, .linkPoor .dl, .linkPoor .ul, .starved .dl, .starved .ul, .shortfall .dl, .shortfall .ul]

/-- Direction filter code. -/
def DirFilter.code : DirFilter → Nat
  | .dl => 0
  | .ul => 1
  | .both => 2

/-- Buffer policy code. -/
def Policy.code : Policy → Nat
  | .stop => 0
  | .wrap => 1

/-- The actions byte: ALERT at bit 0, CAPTURE at bit 1, FREEZE at bit 2 (10 section 10.4). -/
def Actions.code (a : Actions) : Nat :=
  (if a.alert then 1 else 0) + (if a.capture then 2 else 0) + (if a.freeze then 4 else 0)

/-! ### Codes the part receives; `none` is a value that is not in the field's list (R185) -/

/-- A flag byte whose only values are 0 and 1. -/
def flagOf (n : Nat) : Option Bool :=
  if n = 0 then some false else if n = 1 then some true else none

/-- A direction. -/
def dirOf (n : Nat) : Option Direction :=
  if n = 0 then some .dl else if n = 1 then some .ul else none

/-- A direction filter. -/
def dirFilterOf (n : Nat) : Option DirFilter :=
  if n = 0 then some .dl else if n = 1 then some .ul else if n = 2 then some .both else none

/-- An outcome result of an OUTCOME_BATCH entry: true for FAILED. -/
def failedOf (n : Nat) : Option Bool :=
  if n = 0 then some false else if n = 1 then some true else none

/-- A class kind. -/
def classKindOf (n : Nat) : Option ClassKind :=
  if n = 0 then some .emergency else if n = 1 then some .guaranteed
  else if n = 2 then some .bestEffort else none

/-- A buffer policy. -/
def policyOf (n : Nat) : Option Policy :=
  if n = 0 then some .stop else if n = 1 then some .wrap else none

/-- The thirteen event kinds in code order. -/
def EventKind.all : List EventKind :=
  [.grant, .pollGrant, .skipPower, .skipSliver, .skipGone, .unreached, .truncation, .fadeEnter,
   .fadeReseed, .outcomeFailed, .reportStale, .lostEnter, .frameGap]

/-- An event kind. -/
def eventKindOf (n : Nat) : Option EventKind := EventKind.all[n]?

/-- The actions byte; bits 3 to 7 name no action. -/
def actionsOf (n : Nat) : Option Actions :=
  if n < 8 then some ⟨n.testBit 0, n.testBit 1, n.testBit 2⟩ else none

/-- A class index. -/
def classOf (n : Nat) : Option (Fin 8) := if h : n < 8 then some ⟨n, h⟩ else none

end Sys2Proof.Machine
end

