-- ==== Sys2Proof/Machine/Wire.lean ====
section
/-! DEFINITION. The byte layouts of every message the part sends (chapter 10). -/

namespace Sys2Proof.Machine

/-- A handle: slot, generation (R185). -/
def handleBytes (h : Handle) : List Byte := byte1 h.slot ++ [h.gen]

/-- An optional handle's two bytes, 0 when absent (R185). -/
def handleBytes? : Option Handle → List Byte
  | some h => handleBytes h
  | none => zeros 2

/-- An optional two-byte word, 0 when absent (R185). -/
def wordBytes? : Option U16 → List Byte
  | some w => byte2 w.toNat
  | none => zeros 2

/-- An optional direction's byte, 0 when absent (R185). -/
def dirByte? : Option Direction → List Byte
  | some d => byte1 (dirCode d)
  | none => zeros 1

/-- The result code and the 11-byte status summary (10 "The status summary"). -/
def summaryBytes (r : Result) (m : Summary) : List Byte :=
  byte1 r.code ++ byte1 m.device.code
    ++ byte1 (bitAt 0 m.inFlight + bitAt 1 m.newest.isSome + bitAt 2 m.subscriberAlert)
    ++ wordBytes? m.newest ++ byte1 m.segment ++ byte1 m.carriers ++ byte2 m.active
    ++ byte1 m.live ++ byte2 m.alerts.toNat

/-- One track of a SUBSCRIBER_READ answer, 21 bytes (10 section 10.6). -/
def trackBytes (t : Track) (age quality step : Nat) : List Byte :=
  byte2 t.f ++ byte2 t.l ++ byte1 t.fade.code ++ byte1 t.debounce ++ byte1 t.fadeSamples
    ++ byte1 t.settle ++ signed2 t.offset ++ byte1 t.poor ++ byte4 age
    ++ flag1 t.aRef.isSome ++ byte2 (t.aRef.getD 0) ++ byte2 quality ++ byte1 step

/-- One history position, 8 bytes; an unwritten one carries its other seven as 0 (10 section 10.6). -/
def historyBytes (e : HistoryEntry) : List Byte :=
  if e.written then
    byte1 1 ++ byte2 e.frame.toNat ++ byte1 e.kind.code ++ byte1 e.tiles ++ byte2 e.served
      ++ byte1 e.outcome.code
  else zeros 8

/-- One demand group, 39 bytes (10 section 10.6). -/
def demandBytes (g : Demand) : List Byte :=
  byte4 g.backlog ++ flag1 g.stamp.isSome ++ wordBytes? g.stamp
    ++ historyBytes g.ring[0] ++ historyBytes g.ring[1] ++ historyBytes g.ring[2]
    ++ historyBytes g.ring[3]

/-- One service group, 15 bytes (10 section 10.6). -/
def serviceBytes (v : Service) : List Byte :=
  byte4 v.avg ++ signed4 v.credit ++ byte1 v.starve ++ byte1 v.shortfall
    ++ flag1 v.lastGrant.isSome ++ byte4 ((v.lastGrant.getD 0).toNat)

/-- The data of a SUBSCRIBER_READ answer for a slot that is not FREE, 168 bytes (10 section 10.6). -/
def recordBytes (r : SubscriberRead) : List Byte :=
  handleBytes r.handle ++ byte1 r.sub.life.code
    ++ byte1 r.sub.cls.val ++ byte2 r.sub.dlCost ++ byte1 r.sub.ulCap ++ byte2 r.sub.timing
    ++ byte1 (bitAt 0 r.sub.anchor.isSome + bitAt 1 r.anchorLive) ++ handleBytes? r.sub.anchor
    ++ byte1 r.sub.anchorWeight ++ byte4 r.sub.admitIndex.toNat ++ byte1 r.sub.alerts.toNat
    ++ trackBytes r.sub.tracks.dl r.age.dl r.quality.dl r.rateStep.dl
    ++ trackBytes r.sub.tracks.ul r.age.ul r.quality.ul r.rateStep.ul
    ++ demandBytes r.sub.demand.dl ++ demandBytes r.sub.demand.ul
    ++ serviceBytes r.sub.service.dl ++ serviceBytes r.sub.service.ul

/-- One monitor of a COUNTER_READ answer, 17 bytes (10 section 10.6). -/
def monitorBytes (m : Monitor) : List Byte :=
  flag1 m.enable ++ byte1 m.kind.code ++ byte1 m.filter.code ++ byte1 m.classMask.toNat
    ++ flag1 m.who.isSome ++ handleBytes? m.who ++ byte4 m.v.toNat ++ byte1 m.actions.code
    ++ byte4 m.count.toNat ++ byte1 (bitAt 0 m.overflow + bitAt 1 m.armed)

/-- The data of a COUNTER_READ answer, 84 bytes (10 section 10.6). -/
def counterBytes (c : CounterRead) : List Byte :=
  byte4 c.passes.toNat ++ byte4 c.dlTiles.toNat ++ byte4 c.ulTiles.toNat
    ++ monitorBytes c.monitors[0] ++ monitorBytes c.monitors[1] ++ monitorBytes c.monitors[2]
    ++ monitorBytes c.monitors[3]
    ++ flag1 c.frozen ++ byte1 c.policy.code ++ byte1 c.threshold ++ byte1 c.held

/-- One trace entry, 8 bytes (10 section 10.6). -/
def traceBytes (t : TraceEntry) : List Byte :=
  byte2 t.frame.toNat ++ byte1 (dirCode t.dir) ++ handleBytes t.handle ++ byte1 t.result.code
    ++ byte1 t.tiles ++ byte1 t.tier

/-- The snapshot bytes of a capture record, 25 bytes, 0 when absent (10 section 10.7). -/
def snapshotBytes : Option CaptureSnapshot → List Byte
  | none => zeros 25
  | some c =>
    byte1 c.cls.val ++ byte1 c.life.code ++ byte1 c.rateStep ++ byte2 c.f ++ byte2 c.l
      ++ byte1 c.fade.code ++ signed2 c.offset ++ byte4 c.backlog ++ signed4 c.credit
      ++ byte4 c.avg ++ byte1 c.segment ++ byte2 c.active

/-- A capture record, 33 bytes (10 section 10.7). -/
def captureBytes (c : CaptureRecord) : List Byte :=
  byte1 c.monitor ++ byte1 c.kind.code
    ++ byte1 (bitAt 0 c.frame.isSome + bitAt 1 c.dir.isSome + bitAt 2 c.handle.isSome
        + bitAt 3 c.snapshot.isSome)
    ++ wordBytes? c.frame ++ dirByte? c.dir ++ handleBytes? c.handle ++ snapshotBytes c.snapshot

/-- The data part of an answer (R188, 10 section 10.6). -/
def dataBytes : AnswerData → List Byte
  | .empty => []
  | .admitted h => handleBytes h
  | .batch n refused =>
    byte1 n ++ byte1 refused.length ++ refused.flatMap fun e => byte1 e.index ++ byte1 e.reason.code
  | .freeSlot slot gen => byte1 slot ++ [gen] ++ byte1 0
  | .record r => recordBytes r
  | .counters c => counterBytes c
  | .trace frozen es => flag1 frozen ++ byte1 es.length ++ es.flatMap traceBytes
  | .captures held rs => byte1 rs.length ++ byte1 held ++ rs.flatMap captureBytes

/-- The body of an answer: result, summary, and the data when the result is OK or PARTIAL (R188). -/
def answerBody (a : Answer) : List Byte :=
  summaryBytes a.result a.summary
    ++ (if a.result = .ok ∨ a.result = .partialBatch then dataBytes a.data else [])

/-- The frame of an answer (R187). -/
def answerFrame (a : Answer) : List Byte := frameBytes (answerKind a.kind) a.tag (answerBody a)

/-- The carrier, first tile and count of a run. -/
def runBytes (r : Run) : List Byte := byte1 r.carrier ++ byte1 r.first ++ byte1 r.count

/-- A grant record, 14 bytes; its frame and direction stand in the chunk's header (10 section 10.7). -/
def grantBytes (g : GrantRecord) : List Byte :=
  handleBytes g.handle ++ byte1 g.tier ++ byte1 g.kind.code ++ byte1 g.rateStep
    ++ byte1 (bitAt 0 g.run2.isSome + bitAt 1 g.run1.guarded
        + bitAt 2 ((g.run2.map Run.guarded).getD false))
    ++ runBytes g.run1
    ++ (match g.run2 with | some r => runBytes r | none => zeros 3)
    ++ byte2 g.payload

/-- The figures of one direction in a MAP_END. -/
def figureBytes (f : MapFigures) : List Byte :=
  byte1 f.grants ++ byte1 f.tiles ++ byte1 f.guards ++ byte1 f.unreached

/-- The frame of a grant-section notice, tag 0 (R187, 10 section 10.7). -/
def grantNoticeFrame : GrantNotice → List Byte
  | .chunk c =>
    frameBytes kindGrantChunk 0#8
      (byte2 c.frame.toNat ++ byte1 (dirCode c.dir) ++ byte1 c.seq ++ byte1 c.records.length
        ++ c.records.flatMap grantBytes)
  | .mapEnd m =>
    frameBytes kindMapEnd 0#8
      (byte2 m.frame.toNat ++ byte1 m.cause.code ++ figureBytes m.figures.dl
        ++ figureBytes m.figures.ul ++ byte2 m.budget ++ byte2 m.spent ++ byte1 m.segment
        ++ byte1 m.carriers)

/-- The frame of a general-section notice, tag 0 (R187, 10 section 10.7). -/
def generalNoticeFrame : GeneralNotice → List Byte
  | .alert a =>
    frameBytes kindAlertNotice 0#8
      (byte1 a.kind.code
        ++ byte1 (bitAt 0 a.handle.isSome + bitAt 1 a.dir.isSome + bitAt 2 a.frame.isSome)
        ++ handleBytes? a.handle ++ dirByte? a.dir ++ wordBytes? a.frame)
  | .capture c =>
    frameBytes kindCaptureNotice 0#8 (byte1 c.held ++ flag1 c.frame.isSome ++ wordBytes? c.frame)

end Sys2Proof.Machine
end

