-- ==== Sys2Proof/Machine/State.lean ====
section
/-! DEFINITION. The state of the GS40 as plain data, its stops (none of the manual's), and the state
right after a device reset. -/

namespace Sys2Proof.Machine

/-- The whole part. `pending` is the queue of commands waiting (first in, first out), `draws` the
model's index of the next free value (log 5). -/
structure State where
  /-- Commands waiting; the front is taken next. -/
  pending : List Instr
  /-- The Link Interface (09). -/
  link : Link
  /-- The Subscriber Table's slots (01 section 1.1). -/
  slots : Vector Slot 96
  /-- The eight class profiles (01 section 1.9). -/
  profiles : Vector Profile 8
  /-- The rate table (R39). -/
  rateTable : Vector RateStep 12
  /-- The track setup (02 section 2.10). -/
  trackSetup : TrackSetup
  /-- The Energy Budget Controller (R62). -/
  energy : Energy
  /-- The Ranker (R79). -/
  ranker : Ranker
  /-- The DL and UL Placers (R109). -/
  placers : PerDir Placer
  /-- The DL Placer's remaining budget (R109). -/
  dlBudget : Nat
  /-- The DL Placer's pq spent (R109). -/
  dlSpent : Nat
  /-- The Notice Queue (07). -/
  notices : Notices
  /-- The Monitor Unit (08). -/
  monitor : MonitorUnit
  /-- Model's own: how many free values have been drawn (log 5). -/
  draws : Nat
deriving DecidableEq, Repr

/-- Stops with a fault. The manual describes none: every error of the part is an answer code, an entry
reason, a discarded frame or an alert, and the part goes on. So it has no member, and no meaning faults. -/
inductive Fault where
deriving DecidableEq, Repr

/-- Stops with a refusal. -/
inductive Refusal where
  /-- Raised only by an arm of `exec` whose command has no meaning yet; no arm raises it now. Safe: the
  model stops where the part goes on. -/
  | notModelled (mnemonic : String)
deriving DecidableEq, Repr

/-- Right after a device reset, with both straps low (log 7): every block at its reset value, then
RESTARTED latched and its notice offered to a free line and so chosen (R179, R181, R174). Nothing waits
in the queue. -/
def State.reset : State :=
  { pending := []
    link :=
      { resetLink .low .low with
        alerts := 1#10
        tx := some ⟨.general, generalNoticeFrame restartedNotice⟩ }
    slots := Vector.replicate 96 resetSlot
    profiles := Vector.replicate 8 resetProfile
    rateTable := resetRateTable
    trackSetup := resetTrackSetup
    energy := resetEnergy
    ranker := resetRanker
    placers := .both resetPlacer
    dlBudget := 0
    dlSpent := 0
    notices := { resetNotices with general := [⟨restartedNotice, .sending⟩] }
    monitor := resetMonitorUnit
    draws := 0 }

end Sys2Proof.Machine
end

