-- ==== Sys2Proof/Machine/Ops.lean ====
section
/-! DEFINITION. Shared operations: frame-number arithmetic, the slots and records of the table, the
record's groups by direction, and the outbound arbiter. -/

namespace Sys2Proof.Machine

/-! ### By direction -/

/-- The part of a direction. -/
def PerDir.get {α : Type} (p : PerDir α) : Direction → α
  | .dl => p.dl
  | .ul => p.ul

/-- The pair with the part of one direction replaced. -/
def PerDir.put {α : Type} (p : PerDir α) (d : Direction) (a : α) : PerDir α :=
  match d with
  | .dl => { p with dl := a }
  | .ul => { p with ul := a }

/-- The other direction. -/
def otherDir : Direction → Direction
  | .dl => .ul
  | .ul => .dl

/-! ### Arithmetic -/

/-- Division by 2^k that truncates toward zero (00 "Division and rounding"). -/
def trunc0 (x : Int) (k : Nat) : Int := x.tdiv (2 ^ k)

/-- ceil(a / b). -/
def ceilDiv (a b : Nat) : Nat := (a + b - 1) / b

/-- `x` brought into `lo..hi`. -/
def clampInt (lo hi x : Int) : Int := max lo (min x hi)

/-- Frame a is later than frame b (R1). -/
def later (a b : U16) : Bool := decide (1 ≤ (a - b).toNat ∧ (a - b).toNat ≤ 32767)

/-- Frame a is earlier than frame b (R1). -/
def earlier (a b : U16) : Bool := later b a

/-- The age of frame f when the newest frame is n (R1). -/
def frameAge (n f : U16) : Nat := (n - f).toNat

/-- Passes from one pass index to another, modulo 2^32 (00 "Pass index"). -/
def passesSince (now past : U32) : Nat := (now - past).toNat

/-- The history position of a frame (R47). -/
def ringPos (f : U16) : Fin 4 := ⟨f.toNat % 4, Nat.mod_lt _ (by decide)⟩

/-! ### Slots and handles -/

/-- The slot of a number; a number above 95 names no slot and reads as a FREE one. -/
def State.slot (s : State) (n : Nat) : Slot := (s.slots[n]?).getD resetSlot

/-- The state with one slot replaced. -/
def State.putSlot (s : State) (n : Nat) (x : Slot) : State :=
  { s with slots := s.slots.setIfInBounds n x }

/-- The state with the record of a slot replaced and its generation kept. -/
def State.putSub (s : State) (n : Nat) (x : Subscriber) : State :=
  s.putSlot n { s.slot n with sub := some x }

/-- The record a handle names when the handle is live, and nothing otherwise (R3). -/
def State.lookup (s : State) (h : Handle) : Option Subscriber :=
  if (s.slot h.slot).gen = h.gen then (s.slot h.slot).sub else none

/-- Whether a handle is live (R3). -/
def State.isLive (s : State) (h : Handle) : Bool := (s.lookup h).isSome

/-- Whether a slot number names a slot of the table (R3). -/
def slotExists (n : Nat) : Bool := decide (n < Config.slotCount)

/-- The handle of the occupant of a slot. -/
def State.handleAt (s : State) (n : Nat) : Handle := ⟨n, (s.slot n).gen⟩

/-- The live subscriber count (R2). -/
def State.liveCount (s : State) : Nat := s.slots.toList.countP fun x => x.sub.isSome

/-- The lowest FREE slot (R7). -/
def State.lowestFree (s : State) : Option Nat :=
  (List.range Config.slotCount).find? fun n => (s.slot n).sub.isNone

/-- Every record of the table changed by `f`; FREE slots and generations stay. -/
def State.mapSubs (s : State) (f : Subscriber → Subscriber) : State :=
  { s with slots := s.slots.map fun x => { x with sub := x.sub.map f } }

/-! ### Groups of a record -/

/-- The record with the track of one direction replaced. -/
def Subscriber.putTrack (u : Subscriber) (d : Direction) (t : Track) : Subscriber :=
  { u with tracks := u.tracks.put d t }

/-- The record with the demand group of one direction replaced. -/
def Subscriber.putDemand (u : Subscriber) (d : Direction) (g : Demand) : Subscriber :=
  { u with demand := u.demand.put d g }

/-- The record with the service group of one direction replaced. -/
def Subscriber.putService (u : Subscriber) (d : Direction) (v : Service) : Subscriber :=
  { u with service := u.service.put d v }

/-! ### Blocks -/

/-- Whether a pass is in flight (R79). -/
def State.inFlight (s : State) : Bool := decide (s.ranker.stage ≠ .idle)

/-- The profile of a class as the table holds it now. -/
def State.profile (s : State) (c : Fin 8) : Profile := s.profiles[c]

/-- The profile of a class in the copy of the pass in flight (R17). -/
def State.profileCopy (s : State) (c : Fin 8) : Profile := s.ranker.profileCopy[c]

/-- The payload per tile of a rate step 1..12; 0 for step 0 (R39). -/
def State.payloadOf (s : State) (step : Nat) : Nat :=
  if step = 0 then 0 else ((s.rateTable[step - 1]?).map RateStep.r).getD 0

/-- Budget of a segment 1..5 (R70). -/
def EnergyTable.budget (t : EnergyTable) (seg : Nat) : Nat := (t.budgets[seg - 1]?).getD 0

/-- Carriers of a segment 1..5 (R73). -/
def EnergyTable.carrier (t : EnergyTable) (seg : Nat) : Nat := (t.carriers[seg - 1]?).getD 1

/-- Boundary bk, k in 1..4 (R65). -/
def EnergyTable.bound (t : EnergyTable) (k : Nat) : Nat := (t.bounds[k - 1]?).getD 0

/-! ### The outbound arbiter (R133, R174) -/

/-- What the arbiter chooses from, best first: answers, the grant section when its head is WAITING, the
general section when its head is WAITING. `noticeFirst`: only notices have been offered so far. -/
def State.offered (s : State) (noticeFirst : Bool) : Option Transmission :=
  match (if noticeFirst then [] else s.link.answers), s.notices.grants, s.notices.general with
  | a :: _, _, _ => some ⟨.answers, answerFrame a⟩
  | [], ⟨n, .waiting, _⟩ :: _, _ => some ⟨.grants, grantNoticeFrame n⟩
  | [], _, ⟨n, .waiting⟩ :: _ => some ⟨.general, generalNoticeFrame n⟩
  | [], _, _ => none

/-- The grant section with its head marked SENDING. -/
def markGrantHead : List GrantEntry → List GrantEntry
  | e :: es => { e with mark := .sending } :: es
  | [] => []

/-- The general section with its head marked SENDING. -/
def markGeneralHead : List GeneralEntry → List GeneralEntry
  | e :: es => { e with mark := .sending } :: es
  | [] => []

/-- What the arbiter chooses now: nothing while a message is being sent, while the part is held in
reset, or once the reset of an accepted RESTART is due (R174, R179, R178; log 14). -/
def State.choice (s : State) (noticeFirst : Bool) : Option Transmission :=
  if s.link.tx.isSome || s.link.resetHeld || s.link.restart == .resetDue then none
  else s.offered noticeFirst

/-- The state after a choice of the arbiter. -/
def State.begin (s : State) (c : Option Transmission) : State :=
  { s with
    link := { s.link with tx := match c with | some t => some t | none => s.link.tx }
    notices :=
      { s.notices with
        grants := if c.map Transmission.source = some .grants then markGrantHead s.notices.grants
          else s.notices.grants
        general := if c.map Transmission.source = some .general then markGeneralHead s.notices.general
          else s.notices.general } }

/-- The arbiter at the end of a taking: the best of what is offered, if the line is free (R174; log 6). -/
def State.arbitrate (s : State) : State := s.begin (s.choice false)

end Sys2Proof.Machine
end

