-- ==== Sys2Proof/Machine/Flags.lean ====
section
/-! DEFINITION. Every flag of the part: the device alert set, the subscribers' alert sets, the mask, the
ALERT line (09 section 9.6), the general section their notices join (R142), and the status summary (R172). -/

namespace Sys2Proof.Machine

/-! ### Sets of alerts -/

/-- A set with one bit added. -/
def addBit {n : Nat} (w : BitVec n) (i : Nat) : BitVec n := w ||| BitVec.ofNat n (2 ^ i)

/-- Whether a device alert is latched (R180). -/
def State.hasAlert (s : State) (a : DeviceAlert) : Bool := s.link.alerts.getLsbD a.code

/-- Whether a kind is masked (R182). -/
def State.masked (s : State) (k : AlertKind) : Bool := s.link.mask.getLsbD k.code

/-- Whether a member is latched in a record's alert set (R18). -/
def Subscriber.hasMember (u : Subscriber) (m : Member) : Bool := u.alerts.getLsbD m.bit

/-- The device alert set with a kind joined to it. -/
def State.setAlert (s : State) (a : DeviceAlert) : State :=
  { s with link := { s.link with alerts := addBit s.link.alerts a.code } }

/-! ### The general section (R142) -/

/-- A notice offered to the general section: it joins the tail when the section holds fewer than 24
entries; otherwise it is dropped and NOTICE_LOST is latched. The notice of NOTICE_LOST itself would meet
the same full section, so the latch is all that a drop leaves (R142). -/
def State.offerGeneral (s : State) (n : GeneralNotice) : State :=
  if s.notices.general.length < Config.generalCapacity then
    { s with notices := { s.notices with general := s.notices.general ++ [⟨n, .waiting⟩] } }
  else s.setAlert .noticeLost

/-! ### Latching (R181) -/

/-- A device alert latched with the frame its rule names: nothing when it is latched already; otherwise
it joins the set, and a notice is offered unless the kind is masked (R181). -/
def State.latchDevice (s : State) (a : DeviceAlert) (frame : Option U16) : State :=
  if s.hasAlert a then s
  else if s.masked (.device a) then s.setAlert a
  else (s.setAlert a).offerGeneral
    (.alert { kind := .device a, handle := none, dir := none, frame := frame })

/-- A member latched in the alert set of the occupant of slot `n`; its notice carries the newest frame
(R18, R181). -/
def State.latchMember (s : State) (n : Nat) (m : Member) : State :=
  match (s.slot n).sub with
  | none => s
  | some u =>
    if u.hasMember m then s
    else
      let s' := s.putSub n { u with alerts := addBit u.alerts m.bit }
      if s.masked m.kind then s'
      else s'.offerGeneral
        (.alert
          { kind := m.kind, handle := some (s.handleAt n), dir := m.dir, frame := s.ranker.newest })

/-! ### The ALERT line and the status summary -/

/-- Whether a record's alert set is not empty (R18, masked kinds included). -/
def Subscriber.anyAlert (u : Subscriber) : Bool := decide (u.alerts ≠ 0#7)

/-- Whether a record's alert set holds a member of a kind that is not masked. -/
def State.unmaskedMember (s : State) (u : Subscriber) : Bool :=
  Member.all.any fun m => u.hasMember m && !s.masked m.kind

/-- The device alert kinds in code order. -/
def DeviceAlert.all : List DeviceAlert :=
  [.restarted, .deadline, .energyStale, .monitorOverflow, .captureFull, .linkCrc, .linkFraming,
   .linkOverrun, .noticeLost, .mapPurged]

/-- Whether the ALERT line is at its active level (R183, R179): an alert of an unmasked kind is latched,
and the part is not held in reset. -/
def State.alertLine (s : State) : Bool :=
  !s.link.resetHeld &&
    (DeviceAlert.all.any (fun a => s.hasAlert a && !s.masked (.device a)) ||
      s.slots.toList.any fun x =>
        match x.sub with
        | some u => s.unmaskedMember u
        | none => false)

/-- Whether any slot that is not FREE holds a non-empty alert set (R172). -/
def State.subscriberAlert (s : State) : Bool :=
  s.slots.toList.any fun x =>
    match x.sub with
    | some u => u.anyAlert
    | none => false

/-- The status summary as the state stands (R172, R76). -/
def State.summary (s : State) : Summary :=
  { device := s.link.device
    inFlight := s.inFlight
    newest := s.ranker.newest
    segment := s.energy.segment
    carriers := s.energy.table.carrier s.energy.segment
    active := s.energy.active
    live := s.liveCount
    alerts := s.link.alerts
    subscriberAlert := s.subscriberAlert }

end Sys2Proof.Machine
end

