-- ==== Sys2Proof/Machine/DeviceReset.lean ====
section
/-! DEFINITION. The device reset and its four steps: POWER_ON, RESET_LINE_ASSERT, RESET_LINE_RELEASE,
RESTART_RESET (R178, R179). -/

namespace Sys2Proof.Machine

/-- Every block at its reset value, with the straps sampled (R163, R179). The queue of commands and the
model's count of free values drawn are not the part's, and stay. -/
def State.resetBlocks (s : State) (baud1 baud0 : PinLevel) : State :=
  { pending := s.pending
    link := resetLink baud1 baud0
    slots := Vector.replicate 96 resetSlot
    profiles := Vector.replicate 8 resetProfile
    rateTable := resetRateTable
    trackSetup := resetTrackSetup
    energy := resetEnergy
    ranker := resetRanker
    placers := .both resetPlacer
    dlBudget := 0
    dlSpent := 0
    notices := resetNotices
    monitor := resetMonitorUnit
    draws := s.draws }

/-- A device reset taken: every block at its reset value, then RESTARTED latched, its notice with no frame,
and the arbiter's choice (R179, R181, R174). -/
def State.deviceReset (s : State) (baud1 baud0 : PinLevel) : State :=
  ((s.resetBlocks baud1 baud0).latchDevice .restarted none).arbitrate

/-- POWER_ON acts as a device reset (R179). While the RESET line is active it holds the part in reset, and
the reset ends with the line (log 13). -/
def execPowerOn (baud1 baud0 : PinLevel) (s : State) : Host.Outcome State Fault Refusal :=
  .next (if s.link.resetHeld then s else s.deviceReset baud1 baud0)

/-- The notices with no entry SENDING. -/
def Notices.cutOff (n : Notices) : Notices :=
  { n with
    grants := n.grants.map fun e => { e with mark := .waiting }
    general := n.general.map fun e => { e with mark := .waiting }
    assemblers := .both resetAssembler }

/-- The Ranker with no pass in flight (R108). -/
def Ranker.abandoned (k : Ranker) : Ranker := { k with stage := .idle, cause := none, timer := .idle }

/-- The part held in reset: the message being sent is cut off, a pass in flight ends without a completion
and its Placers without a flush, and nothing is being received or decoded (R179, R108, R131, R133, R143;
log 13). -/
def State.holdInReset (s : State) : State :=
  { s with
    link :=
      { s.link with
        resetHeld := true, rx := .hunt, decoding := .idle, restart := .none, tx := none }
    ranker := s.ranker.abandoned
    placers := .both resetPlacer
    notices := s.notices.cutOff }

/-- RESET_LINE_ASSERT: the RESET line goes active (R179). When it is active already nothing changes. -/
def execResetLineAssert (s : State) : Host.Outcome State Fault Refusal :=
  .next (if s.link.resetHeld then s else s.holdInReset)

/-- RESET_LINE_RELEASE: the line returns to its inactive level and the device reset ends (R179). When the
line is not active the step does not occur (log 1). -/
def execResetLineRelease (baud1 baud0 : PinLevel) (s : State) : Host.Outcome State Fault Refusal :=
  .next (if s.link.resetHeld then s.deviceReset baud1 baud0 else s)

/-- RESTART_RESET: the device reset of an accepted RESTART, once the last byte of its answer has been sent
(R178). Before that the step does not occur (log 1). -/
def execRestartReset (baud1 baud0 : PinLevel) (s : State) : Host.Outcome State Fault Refusal :=
  .next (if s.link.restart = .resetDue ∧ s.link.resetHeld = false then s.deviceReset baud1 baud0 else s)

end Sys2Proof.Machine
end

