-- ==== Sys2Proof/Machine/QualityRules.lean ====
section
/-! DEFINITION. The arithmetic of chapter 2: filters, fade detector, offsets, effective quality and rate
step. -/

namespace Sys2Proof.Machine

/-! ### A sample into a track (R25 to R30) -/

/-- F moved toward S by the shift `k`, truncating toward zero (R25 with k = 1, R26). -/
def moveToward (f s k : Nat) : Nat := ((f : Int) + trunc0 ((s : Int) - f) k).toNat

/-- A settle sample (R25). -/
def Track.settleSample (t : Track) (s : Nat) : Track :=
  { t with
    f := moveToward t.f s 1
    l := moveToward t.f s 1
    settle := t.settle - 1
    fade := .steady
    debounce := 0
    fadeSamples := 0 }

/-- The filters of an ordinary sample: F always, L only when the track is STEADY (R26, R27). -/
def Track.filterSample (t : Track) (c : TrackSetup) (s : Nat) : Track :=
  { t with
    f := moveToward t.f s c.bf
    l := if t.fade = .steady then moveToward t.l (moveToward t.f s c.bf) c.bl else t.l }

/-- The deficit D = L − F (02 section 2.5). -/
def Track.deficit (t : Track) : Int := (t.l : Int) - t.f

/-- The fade sample count increased by 1, saturating at 255 (R29). -/
def bumpFadeSamples (n : Nat) : Nat := if n ≥ 255 then n else n + 1

/-- The fade detector on a track whose filters have run, and whether it raises FADE_ENTER (R28, R29). -/
def Track.detect (t : Track) (c : TrackSetup) : Track × Bool :=
  match t.fade with
  | .steady =>
    if t.deficit > 16 * c.tEnter then
      if c.dEnter = 1 then ({ t with fade := .faded, fadeSamples := 0, debounce := 0 }, true)
      else ({ t with fade := .entering, debounce := 1 }, false)
    else (t, false)
  | .entering =>
    if t.deficit > 16 * c.tEnter then
      if t.debounce + 1 ≥ c.dEnter then
        ({ t with fade := .faded, fadeSamples := 0, debounce := 0 }, true)
      else ({ t with debounce := t.debounce + 1 }, false)
    else ({ t with fade := .steady, debounce := 0 }, false)
  | .faded =>
    if t.deficit ≤ 16 * c.tExit then
      if c.dExit = 1 then ({ t with fade := .steady, debounce := 0, fadeSamples := 0 }, false)
      else
        ({ t with fade := .leaving, debounce := 1, fadeSamples := bumpFadeSamples t.fadeSamples },
          false)
    else ({ t with fadeSamples := bumpFadeSamples t.fadeSamples }, false)
  | .leaving =>
    if t.deficit ≤ 16 * c.tExit then
      if t.debounce + 1 ≥ c.dExit then
        ({ t with fade := .steady, debounce := 0, fadeSamples := 0 }, false)
      else
        ({ t with debounce := t.debounce + 1, fadeSamples := bumpFadeSamples t.fadeSamples }, false)
    else
      ({ t with fade := .faded, debounce := 0, fadeSamples := bumpFadeSamples t.fadeSamples }, false)

/-- Whether the fade timeout reseeds the track (R30). -/
def Track.reseeds (t : Track) (c : TrackSetup) : Bool :=
  decide ((t.fade = .faded ∨ t.fade = .leaving) ∧ c.fadeTimeout ≠ 0 ∧ t.fadeSamples > c.fadeTimeout)

/-- A reseed (R30). -/
def Track.reseed (t : Track) (c : TrackSetup) : Track :=
  { t with l := t.f, fade := .steady, debounce := 0, fadeSamples := 0, settle := c.settle }

/-- The track after an ordinary sample, whether FADE_ENTER is raised, and whether FADE_RESEED is
(R26 to R30). -/
def Track.ordinarySample (t : Track) (c : TrackSetup) (s : Nat) : Track × Bool × Bool :=
  let (t', entered) := (t.filterSample c s).detect c
  if t'.reseeds c then (t'.reseed c, entered, true) else (t', entered, false)

/-- Step 2 of R23: the settle path, or the ordinary path. -/
def Track.takeSample (t : Track) (c : TrackSetup) (s : Nat) : Track × Bool × Bool :=
  if t.settle > 0 then (t.settleSample s, false, false) else t.ordinarySample c s

/-! ### Outcomes into a track (R33, R34) -/

/-- A DELIVERED outcome (R33). -/
def Track.delivered (t : Track) (c : TrackSetup) : Track :=
  { t with offset := min (t.offset + c.up) 160, poor := 0 }

/-- The offset after a FAILED outcome (R34). -/
def Track.failedOffset (t : Track) (c : TrackSetup) : Int := max (t.offset - c.dn) (-640)

/-- Whether a FAILED outcome latches LINK_POOR (R34). -/
def Track.failedLatches (t : Track) (c : TrackSetup) : Bool :=
  decide (t.failedOffset c = -640 ∧ t.poor + 1 ≥ c.poorLimit)

/-- A FAILED outcome (R34). -/
def Track.failed (t : Track) (c : TrackSetup) : Track :=
  { t with
    offset := t.failedOffset c
    poor :=
      if t.failedOffset c = -640 then (if t.poor + 1 ≥ c.poorLimit then 0 else t.poor + 1)
      else t.poor }

/-! ### Effective quality and rate step (R35 to R39) -/

/-- Sample age of a track (R35). -/
def Track.sampleAge (t : Track) (now : U32) : Nat := passesSince now t.lastSample

/-- Whether a track is fresh (R35). -/
def Track.fresh (t : Track) (now : U32) (limit : Nat) : Bool := decide (t.sampleAge now ≤ limit)

/-- The anchor's movement for a stale track, when the conditions of R37 hold. -/
def State.anchorMove (s : State) (u : Subscriber) (d : Direction) (limit : Nat) : Option Int :=
  match u.anchor.bind s.lookup, (u.tracks.get d).aRef with
  | some a, some ref =>
    if (a.tracks.get d).fresh s.ranker.passIndex limit then
      some (((((a.tracks.get d).f : Int) - ref) * u.anchorWeight).tdiv 16)
    else none
  | _, _ => none

/-- E before its clamp (R36, R37). -/
def State.rawQuality (s : State) (u : Subscriber) (d : Direction) (limit penalty : Nat) : Int :=
  let t := u.tracks.get d
  let base : Int := (t.f : Int) + t.offset
  if t.fresh s.ranker.passIndex limit then base
  else
    match s.anchorMove u d limit with
    | some m => base + m
    | none => base - 16 * penalty

/-- The effective quality E of a record's track, with the current pass index (R35 to R38). -/
def State.quality (s : State) (u : Subscriber) (d : Direction) (limit penalty : Nat) : Nat :=
  (clampInt 0 2047 (s.rawQuality u d limit penalty)).toNat

/-- The highest step whose threshold × 16 is at most E, or 0 (R39). -/
def stepOf (table : Vector RateStep 12) (e : Nat) : Nat :=
  (List.range 12).foldl
    (fun best i =>
      match table[i]? with
      | some st => if st.threshold * 16 ≤ e then i + 1 else best
      | none => best)
    0

/-- The rate step used for a class kind (R39). -/
def stepFor (table : Vector RateStep 12) (kind : ClassKind) (e : Nat) : Nat :=
  if kind = .emergency then max (stepOf table e) 1 else stepOf table e

/-- E as a read computes it: the current pass setup (R19, R35). -/
def State.readQuality (s : State) (u : Subscriber) (d : Direction) : Nat :=
  s.quality u d s.ranker.setup.staleLimit s.ranker.setup.stalePenalty

/-- The rate step as a read computes it: the current profile and table (R19, R39). -/
def State.readStep (s : State) (u : Subscriber) (d : Direction) : Nat :=
  stepFor s.rateTable (s.profile u.cls).kind (s.readQuality u d)

/-- The rate step as the Ranker computes it: the copies of the pass (R35, R39, R42). -/
def State.passStep (s : State) (u : Subscriber) (d : Direction) : Nat :=
  stepFor s.rateTable (s.profileCopy u.cls).kind
    (s.quality u d s.ranker.setupCopy.staleLimit s.ranker.setupCopy.stalePenalty)

end Sys2Proof.Machine
end

