-- ==== Sys2Proof/Machine/Monitors.lean ====
section
/-! DEFINITION. The Monitor Unit taking an event whole: pending captures, counting, overflow, freeze, the
capture buffer and the decision trace (chapter 8). -/

namespace Sys2Proof.Machine

/-! ### Qualification (R147) -/

/-- The direction filter admits the event; an event without a direction passes every filter. -/
def DirFilter.admits (f : DirFilter) : Option Direction → Bool
  | none => true
  | some .dl => f == .dl || f == .both
  | some .ul => f == .ul || f == .both

/-- The class mask admits the event; an event without a class passes every mask. -/
def classAdmitted (mask : BitVec 8) : Option Subject → Bool
  | none => true
  | some w => mask.getLsbD w.cls.val

/-- The subscriber filter admits the event; an event without a handle fails a present filter. -/
def subjectAdmitted : Option Handle → Option Subject → Bool
  | none, _ => true
  | some h, some w => w.handle == h
  | some _, none => false

/-- Whether an event qualifies for a monitor, by its settings alone (R147). -/
def Monitor.qualifies (m : Monitor) (e : Event) : Bool :=
  e.kind == m.kind && m.filter.admits e.dir && classAdmitted m.classMask e.who
    && subjectAdmitted m.who e.who

/-! ### Captures (R151, R153, R154, R155) -/

/-- The snapshot of the subscriber an event names, as its record stands at the capture, when the handle
is live (R153). Without a direction the DL fields are shown. -/
def State.captureSnapshot (s : State) (e : Event) : Option CaptureSnapshot :=
  match e.who.bind fun w => s.lookup w.handle with
  | none => none
  | some u =>
    let d := e.dir.getD .dl
    some
      { cls := u.cls
        life := u.life
        rateStep := s.readStep u d
        f := (u.tracks.get d).f
        l := (u.tracks.get d).l
        fade := (u.tracks.get d).fade
        offset := (u.tracks.get d).offset
        backlog := (u.demand.get d).backlog
        credit := (u.service.get d).credit
        avg := (u.service.get d).avg
        segment := s.energy.segment
        active := s.energy.active }

/-- The record of a capture by monitor `i` (R153). -/
def State.captureRecord (s : State) (i : Nat) (e : Event) : CaptureRecord :=
  { monitor := i
    kind := e.kind
    frame := e.frame
    dir := e.dir
    handle := e.who.map Subject.handle
    snapshot := s.captureSnapshot e }

/-- The held records replaced. -/
def State.putRecords (s : State) (rs : List CaptureRecord) : State :=
  { s with monitor := { s.monitor with records := rs } }

/-- A record offered to the capture buffer (R154), with the CAPTURE_NOTICE of a rise to the threshold
(R155). -/
def State.offerCapture (s : State) (r : CaptureRecord) : State :=
  if s.monitor.records.length < Config.captureCapacity then
    let s' := s.putRecords (s.monitor.records ++ [r])
    if s.monitor.records.length + 1 = s.monitor.threshold then
      s'.offerGeneral (.capture { held := s.monitor.threshold, frame := s.ranker.newest })
    else s'
  else
    match s.monitor.policy with
    | .stop => s.latchDevice .captureFull s.ranker.newest
    | .wrap => s.putRecords (s.monitor.records.tail ++ [r])

/-! ### One monitor and one event (R148, R149, R151, R152) -/

/-- The state with a monitor replaced. -/
def State.putMonitor (s : State) (i : Fin 4) (m : Monitor) : State :=
  { s with monitor := { s.monitor with monitors := s.monitor.monitors.set i m } }

/-- A pending capture taken first (R151, R152). -/
def State.takeCapture (s : State) (e : Event) (i : Fin 4) : State :=
  let m := s.monitor.monitors[i]
  if m.armed && m.qualifies e then
    (s.putMonitor i { m with armed := false }).offerCapture (s.captureRecord i.val e)
  else s

/-- The count loaded for a sample-after V: 2^32 − V (R146). -/
def loadedCount (v : U32) : U32 := 0#32 - v

/-- A monitor after an overflow, its count reloaded (R148, R149). -/
def Monitor.overflowed (m : Monitor) : Monitor :=
  { m with count := loadedCount m.v, overflow := true, armed := m.armed || m.actions.capture }

/-- The event counted, and whether it freezes (R148, R149). -/
def State.countEvent (s : State) (e : Event) (i : Fin 4) : State × Bool :=
  let m := s.monitor.monitors[i]
  if m.enable && m.qualifies e then
    if m.count + 1#32 = 0#32 then
      let s' := s.putMonitor i m.overflowed
      (if m.actions.alert then s'.latchDevice .monitorOverflow e.frame else s', m.actions.freeze)
    else (s.putMonitor i { m with count := m.count + 1#32 }, false)
  else (s, false)

/-- One monitor judges one event: a pending capture, then the count (R152). -/
def judgeMonitor (e : Event) (acc : State × Bool) (i : Fin 4) : State × Bool :=
  let counted := (acc.1.takeCapture e i).countEvent e i
  (counted.1, acc.2 || counted.2)

/-! ### Trace and freeze (R150, R156) -/

/-- A decision's entry joins the trace; the oldest of sixteen leaves (R156). -/
def traceJoin (es : List TraceEntry) (t : TraceEntry) : List TraceEntry :=
  (if es.length < Config.traceCapacity then es else es.tail) ++ [t]

/-- The trace entry of a decision, written while the trace is not frozen (R156). -/
def State.traceDecision (s : State) (t : Option TraceEntry) : State :=
  match t with
  | none => s
  | some t =>
    if s.monitor.frozen then s
    else { s with monitor := { s.monitor with trace := traceJoin s.monitor.trace t } }

/-- A freeze: every enable off, the trace frozen (R150). -/
def State.freeze (s : State) : State :=
  { s with
    monitor :=
      { s.monitor with
        monitors := s.monitor.monitors.map fun m => { m with enable := false }
        frozen := true } }

/-- The four monitors in ascending order. -/
def monitorIndices : List (Fin 4) := [0, 1, 2, 3]

/-- The Monitor Unit takes an event whole: the four monitors in ascending order, the trace entry of a
decision, and last a freeze (R144, R150, R152). The order of the notices several monitors raise is the
model's (log 11). -/
def State.takeEvent (s : State) (e : Event) (t : Option TraceEntry) : State :=
  let judged := monitorIndices.foldl (judgeMonitor e) (s, false)
  let s' := judged.1.traceDecision t
  if judged.2 then s'.freeze else s'

/-- Events of one block in the order it raises them (R144). -/
def State.takeEvents (s : State) (es : List Event) : State :=
  es.foldl (fun s e => s.takeEvent e none) s

end Sys2Proof.Machine
end

