-- ==== Sys2Proof/Machine/Operands.lean ====
section
/-! DEFINITION. The operand forms of the requests: where each field stands in a body (R188, 10 section
10.5), and the whole-body validation of the tables and setups, which answer BAD_FIELD. -/

namespace Sys2Proof.Machine

/-! ### Fields of a body (R185) -/

/-- The byte at an offset. -/
def byteAt (b : List Byte) (i : Nat) : Byte := b.getD i 0#8

/-- A one-byte number at an offset. -/
def num1 (b : List Byte) (i : Nat) : Nat := (byteAt b i).toNat

/-- A two-byte number at an offset, most significant byte first. -/
def num2 (b : List Byte) (i : Nat) : Nat := num1 b i * 256 + num1 b (i + 1)

/-- A four-byte number at an offset, most significant byte first. -/
def num4 (b : List Byte) (i : Nat) : Nat := num2 b i * 65536 + num2 b (i + 2)

/-- A frame number at an offset. -/
def frameAt (b : List Byte) (i : Nat) : U16 := BitVec.ofNat 16 (num2 b i)

/-- A handle at an offset. -/
def handleAtOffset (b : List Byte) (i : Nat) : Handle := ⟨num1 b i, byteAt b (i + 1)⟩

/-! ### Clamps of ADMIT and LINK_UPDATE (01 sections 1.4 and 1.8) -/

/-- DL cost: 0 becomes 1, above 4095 becomes 4095. -/
def clampCost (n : Nat) : Nat := max 1 (min n 4095)

/-- UL cap: above 48 becomes 48. -/
def clampCap (n : Nat) : Nat := min n 48

/-- Timing offset: above 1000 becomes 1000. -/
def clampTiming (n : Nat) : Nat := min n 1000

/-- A reported quality: above 127 is taken as 127 (R22, 01 section 1.4). -/
def clampQuality (n : Nat) : Nat := min n 127

/-! ### ADMIT -/

/-- The fields of an ADMIT, clamped. -/
structure AdmitFields where
  cls : Fin 8
  dlCost : Nat
  ulCap : Nat
  timing : Nat
  anchor : Option Handle
  anchorWeight : Nat
  quality : PerDir Nat
deriving DecidableEq, Repr

/-- An anchor field behind a presence flag: `none` when the flag names neither absent nor present, or
the anchor present has a slot above 95 (R6). -/
def anchorField (flag : Nat) (h : Handle) : Option (Option Handle) :=
  match flagOf flag with
  | none => none
  | some false => some none
  | some true => if slotExists h.slot then some (some h) else none

/-- The body of an ADMIT; `none` is BAD_FIELD (R6, first). -/
def parseAdmit (b : List Byte) : Option AdmitFields :=
  match classOf (num1 b 0), anchorField (num1 b 6) (handleAtOffset b 7) with
  | some c, some a =>
    if num1 b 9 ≤ 16 then
      some
        { cls := c
          dlCost := clampCost (num2 b 1)
          ulCap := clampCap (num1 b 3)
          timing := clampTiming (num2 b 4)
          anchor := a
          anchorWeight := num1 b 9
          quality := ⟨clampQuality (num1 b 10), clampQuality (num1 b 11)⟩ }
    else none
  | _, _ => none

/-! ### LINK_UPDATE -/

/-- What a LINK_UPDATE does to the anchor (R13, R14). -/
inductive AnchorAction where
  | keep
  | set (h : Handle)
  | clear
deriving DecidableEq, Repr

/-- The fields of a LINK_UPDATE, clamped; an absent field is absent here. -/
structure LinkFields where
  cls : Option (Fin 8)
  dlCost : Option Nat
  ulCap : Option Nat
  timing : Option Nat
  anchor : AnchorAction
  anchorWeight : Option Nat
deriving DecidableEq, Repr

/-- A field behind a presence bit: kept as absent when the bit is clear, and not read then (R185). -/
def fieldIf {α : Type} (present : Bool) (value : Option α) : Option (Option α) :=
  if present then value.map some else some none

/-- The anchor action of a LINK_UPDATE: 1 set, 2 clear (10 section 10.5); `none` is BAD_FIELD. -/
def anchorAction (present : Bool) (action : Nat) (h : Handle) : Option AnchorAction :=
  if !present then some .keep
  else if action = 1 then (if slotExists h.slot then some (.set h) else none)
  else if action = 2 then some .clear
  else none

/-- The body of a LINK_UPDATE after its subscriber handle; `none` is BAD_FIELD (R13 step 2). -/
def parseLink (b : List Byte) : Option LinkFields :=
  let p := num1 b 2
  match fieldIf (p.testBit 0) (classOf (num1 b 3)),
      anchorAction (p.testBit 4) (num1 b 9) (handleAtOffset b 10),
      fieldIf (p.testBit 5) (if num1 b 12 ≤ 16 then some (num1 b 12) else none) with
  | some c, some a, some w =>
    if p < 64 then
      some
        { cls := c
          dlCost := if p.testBit 1 then some (clampCost (num2 b 4)) else none
          ulCap := if p.testBit 2 then some (clampCap (num1 b 6)) else none
          timing := if p.testBit 3 then some (clampTiming (num2 b 7)) else none
          anchor := a
          anchorWeight := w }
    else none
  | _, _, _ => none

/-! ### Tables and setups, validated whole -/

/-- The profile of a CLASS_PROFILE with its class index; `none` is BAD_FIELD (R16). -/
def parseProfile (b : List Byte) : Option (Fin 8 × Profile) :=
  match classOf (num1 b 0), classKindOf (num1 b 1) with
  | some c, some k =>
    if 1 ≤ num1 b 2 ∧ num1 b 2 ≤ 15 ∧ 1 ≤ num1 b 7 ∧ num1 b 7 ≤ 48 ∧ 1 ≤ num1 b 8 ∧ num1 b 8 ≤ 48
        ∧ 1 ≤ num1 b 9 ∧ num1 b 9 ≤ 8 ∧ num1 b 11 ≤ 4 then
      some
        (c,
          { kind := k
            weight := num1 b 2
            rate := ⟨num2 b 3, num2 b 5⟩
            maxTiles := ⟨num1 b 7, num1 b 8⟩
            minTiles := num1 b 9
            poll := num1 b 10
            defer := num1 b 11 })
    else none
  | _, _ => none

/-- The list strictly increases. -/
def strictlyIncreasing : List Nat → Bool
  | a :: b :: rest => decide (a < b) && strictlyIncreasing (b :: rest)
  | _ => true

/-- The list strictly decreases. -/
def strictlyDecreasing : List Nat → Bool
  | a :: b :: rest => decide (b < a) && strictlyDecreasing (b :: rest)
  | _ => true

/-- The list nowhere increases. -/
def nonIncreasing : List Nat → Bool
  | a :: b :: rest => decide (b ≤ a) && nonIncreasing (b :: rest)
  | _ => true

/-- Whether a rate table is acceptable (R41). -/
def rateTableValid (t : Vector RateStep 12) : Bool :=
  t.toList.all (fun st => decide (1 ≤ st.r ∧ st.threshold ≤ 127))
    && strictlyIncreasing (t.toList.map RateStep.r)
    && strictlyIncreasing (t.toList.map RateStep.threshold)

/-- The table a RATE_TABLE carries (R188). -/
def rateTableOf (b : List Byte) : Vector RateStep 12 :=
  Vector.ofFn fun i => ⟨num1 b (2 * i.val), num1 b (2 * i.val + 1)⟩

/-- The rate table of a RATE_TABLE; `none` is BAD_FIELD (R41). -/
def parseRateTable (b : List Byte) : Option (Vector RateStep 12) :=
  if rateTableValid (rateTableOf b) then some (rateTableOf b) else none

/-- Whether a track setup is acceptable (R43, 02 section 2.10). -/
def TrackSetup.valid (c : TrackSetup) : Bool :=
  decide (1 ≤ c.bf ∧ c.bf ≤ 6 ∧ 3 ≤ c.bl ∧ c.bl ≤ 10 ∧ c.bf < c.bl ∧ c.settle ≤ 15
    ∧ 1 ≤ c.tEnter ∧ c.tEnter ≤ 40 ∧ c.tExit < c.tEnter ∧ 1 ≤ c.dEnter ∧ c.dEnter ≤ 15
    ∧ 1 ≤ c.dExit ∧ c.dExit ≤ 15 ∧ c.fadeTimeout ≤ 255 ∧ 1 ≤ c.dn ∧ c.dn ≤ 255
    ∧ 1 ≤ c.up ∧ c.up ≤ 255 ∧ 1 ≤ c.poorLimit ∧ c.poorLimit ≤ 63)

/-- The setup a TRACK_SETUP carries (R188). -/
def trackSetupOf (b : List Byte) : TrackSetup :=
  { bf := num1 b 0, bl := num1 b 1, settle := num1 b 2, tEnter := num1 b 3, tExit := num1 b 4,
    dEnter := num1 b 5, dExit := num1 b 6, fadeTimeout := num1 b 7, dn := num1 b 8, up := num1 b 9,
    poorLimit := num1 b 10 }

/-- The setup of a TRACK_SETUP; `none` is BAD_FIELD (R43). -/
def parseTrackSetup (b : List Byte) : Option TrackSetup :=
  if (trackSetupOf b).valid then some (trackSetupOf b) else none

/-- Whether an energy table is acceptable (R63). -/
def EnergyTable.valid (t : EnergyTable) : Bool :=
  t.bounds.toList.all (fun b => decide (1 ≤ b ∧ b ≤ 254))
    && strictlyDecreasing t.bounds.toList
    && decide (t.hysteresis ≤ 31)
    && t.budgets.toList.all (fun b => decide (b ≤ 65535))
    && nonIncreasing t.budgets.toList
    && t.carriers.toList.all (fun c => decide (c = 1 ∨ c = 2))
    && nonIncreasing t.carriers.toList
    && decide (1 ≤ t.slew ∧ t.slew ≤ 65535)

/-- The energy table an ENERGY_TABLE carries, its four flags given. -/
def energyTableOf (b : List Byte) (rise fall graded lift : Bool) : EnergyTable :=
  { bounds := Vector.ofFn fun i => num1 b i.val
    hysteresis := num1 b 4
    budgets := Vector.ofFn fun i => num2 b (5 + 2 * i.val)
    carriers := Vector.ofFn fun i => num1 b (15 + i.val)
    slew := num2 b 20
    riseJump := rise
    fallJump := fall
    graded := graded
    lift := lift }

/-- The table of an ENERGY_TABLE; `none` is BAD_FIELD (R63). -/
def parseEnergyTable (b : List Byte) : Option EnergyTable :=
  match flagOf (num1 b 22), flagOf (num1 b 23), flagOf (num1 b 24), flagOf (num1 b 25) with
  | some rise, some fall, some graded, some lift =>
    if (energyTableOf b rise fall graded lift).valid then some (energyTableOf b rise fall graded lift)
    else none
  | _, _, _, _ => none

/-- Whether a pass setup is acceptable (R106, 05 section 5.9). -/
def PassSetup.valid (p : PassSetup) : Bool :=
  decide (100 ≤ p.deadline ∧ p.deadline ≤ 5000 ∧ 2 ≤ p.k ∧ p.k ≤ 8 ∧ 1 ≤ p.chunk ∧ p.chunk ≤ 16
    ∧ p.guard ≤ 1000 ∧ 1 ≤ p.staleLimit ∧ p.staleLimit ≤ 255 ∧ p.staleLimit < p.lostLimit
    ∧ p.lostLimit ≤ 65535 ∧ p.stalePenalty ≤ 40 ∧ 1 ≤ p.energyTimeout ∧ p.energyTimeout ≤ 65535
    ∧ 1 ≤ p.starveLimit ∧ p.starveLimit ≤ 255 ∧ 1 ≤ p.shortfallLimit ∧ p.shortfallLimit ≤ 255)

/-- The setup a PASS_SETUP carries (R188). -/
def passSetupOf (b : List Byte) : PassSetup :=
  { deadline := num2 b 0, k := num1 b 2, chunk := num1 b 3, guard := num2 b 4,
    staleLimit := num1 b 6, lostLimit := num2 b 7, stalePenalty := num1 b 9,
    energyTimeout := num2 b 10, starveLimit := num1 b 12, shortfallLimit := num1 b 13 }

/-- The setup of a PASS_SETUP; `none` is BAD_FIELD (R106). -/
def parsePassSetup (b : List Byte) : Option PassSetup :=
  if (passSetupOf b).valid then some (passSetupOf b) else none

/-! ### MONITOR_SETUP -/

/-- A monitor's target number; 4 is the capture buffer (10 section 10.8). -/
def bufferTarget : Nat := 4

/-- The subscriber filter behind its flag: `none` is BAD_FIELD, for a flag that is neither 0 nor 1 or a
present filter whose slot is above 95 (R158, R185). -/
def subjectField (flag : Nat) (h : Handle) : Option (Option Handle) := anchorField flag h

/-- The monitor a MONITOR_SETUP sets up, its count loaded and its flags clear; `none` is BAD_FIELD (R158).
The enable byte and the actions byte are codes, so a value that names none is BAD_FIELD too (R185). -/
def parseMonitor (b : List Byte) : Option (Fin 4 × Monitor) :=
  if ht : num1 b 0 < 4 then
    match flagOf (num1 b 1), eventKindOf (num1 b 2), dirFilterOf (num1 b 3),
        subjectField (num1 b 5) (handleAtOffset b 6), actionsOf (num1 b 12) with
    | some on, some k, some f, some who, some acts =>
      if num4 b 8 = 0 then none
      else
        some
          (⟨num1 b 0, ht⟩,
            { enable := on
              kind := k
              filter := f
              classMask := byteAt b 4
              who := who
              v := BitVec.ofNat 32 (num4 b 8)
              actions := acts
              count := 0#32 - BitVec.ofNat 32 (num4 b 8)
              overflow := false
              armed := false })
    | _, _, _, _, _ => none
  else none

/-- The policy and threshold of a buffer setup: the enable byte holds the policy, the event kind byte
the threshold (10 section 10.4); `none` is BAD_FIELD (R159). -/
def parseBuffer (b : List Byte) : Option (Policy × Nat) :=
  match policyOf (num1 b 1) with
  | some p => if 1 ≤ num1 b 2 ∧ num1 b 2 ≤ 16 then some (p, num1 b 2) else none
  | none => none

/-! ### Batches (R170, R188) -/

/-- The size of one entry of a batch. -/
def entrySize : Request → Nat
  | .qualityBatch => 4
  | .queueBatch => 9
  | .outcomeBatch => 6
  | _ => 0

/-- The entries of a batch body, in batch order. -/
def batchEntries (size : Nat) (b : List Byte) : List (List Byte) :=
  (List.range (num1 b 0)).map fun i => (b.drop (1 + size * i)).take size

/-- Step 2 of R170 for a batch: nothing when the count and the length are right (R188). -/
def batchFault (size : Nat) (b : List Byte) : Option Result :=
  if b.length = 0 then some .badLength
  else if num1 b 0 = 0 ∨ num1 b 0 > Config.maxBatch then some .badField
  else if b.length ≠ 1 + size * num1 b 0 then some .badLength
  else none

end Sys2Proof.Machine
end

