-- ==== Sys2Proof/Machine/Requests.lean ====
section
/-! DEFINITION. Decoding a request: taking up the oldest accepted frame, the checks of R170 in their
order, and the answer that ends the decoding (R169, R171, R172). -/

namespace Sys2Proof.Machine

/-! ### The answer (R169, R172, R173) -/

/-- Whether a notice is already offered to a free line when an answer is about to be. -/
def State.noticeWaits (s : State) : Bool := (s.choice true).isSome

/-- Whether the arbiter meets the notice before the answer: a free value when both are offered to a free
line in one taking (R174; log 5). -/
def State.noticeFirst (s : State) : Bool := s.noticeWaits && Config.noticeOfferedFirst s.draws

/-- The answer that ends the decoding of a frame, its summary built from the state it joins (R172). -/
def State.answerFor (s : State) (f : Frame) (r : Result) (d : AnswerData) : Answer :=
  { kind := f.kind, tag := f.tag, result := r, summary := s.summary, data := d }

/-- The decoding of the frame at the head of the accepted frames ends: its answer joins the queue, its
bytes are freed, and the arbiter chooses if the line is free (R169, R173, R174). -/
def State.joinAnswer (s : State) (f : Frame) (r : Result) (d : AnswerData) : State :=
  let offered := if s.noticeFirst then s.begin (s.choice true) else s
  State.arbitrate
    { offered with
      draws := if s.noticeWaits then s.draws + 1 else s.draws
      link :=
        { offered.link with
          answers := s.link.answers ++ [s.answerFor f r d]
          accepted := s.link.accepted.tail
          decoding := .idle } }

/-! ### Taking a frame up (R169) -/

/-- Whether the decoder may act: the part is not held in reset, no accepted RESTART waits for its reset
(R178), and the answer queue has room for one answer. -/
def State.mayDecode (s : State) : Bool :=
  !s.link.resetHeld && s.link.restart == .none
    && decide (s.link.answers.length < Config.answerCapacity)

/-- The oldest accepted frame, when it may be taken up and is one of those asked for (R169). -/
def State.takeUp (s : State) (wanted : Frame → Bool) : Option Frame :=
  if s.mayDecode && s.link.decoding == .idle then
    match s.link.accepted with
    | f :: _ => if wanted f then some f else none
    | [] => none
  else none

/-! ### The checks of R170 and the owning block -/

/-- What an owning block makes of a request. -/
structure Reply where
  state : State
  result : Result
  data : AnswerData

/-- A request refused by its block: nothing is changed. -/
def State.refuse (s : State) (r : Result) : Reply := ⟨s, r, .empty⟩

/-- A request applied and answered OK without data. -/
def State.accept (s : State) : Reply := ⟨s, .ok, .empty⟩

/-- No state rule at step 3 of R170. -/
def anyState (_ : State) : Option Result := none

/-- The effect of a request whose frame has been taken up: its length, its state rule, its block, its
answer (R170 steps 2 to 4). -/
def State.decodeFrame (s : State) (f : Frame) (len : Nat) (rule : State → Option Result)
    (block : List Byte → State → Reply) : State :=
  if f.body.length ≠ len then s.joinAnswer f .badLength .empty
  else
    match rule s with
    | some r => s.joinAnswer f r .empty
    | none =>
      let reply := block f.body s
      reply.state.joinAnswer f reply.result reply.data

/-- The step of a request of fixed length, answered in one taking. When no frame of its kind can be
taken up the step does not occur and nothing changes (log 1). -/
def State.runRequest (s : State) (q : Request) (len : Nat) (rule : State → Option Result)
    (block : List Byte → State → Reply) : Host.Outcome State Fault Refusal :=
  match s.takeUp fun f => f.kind == q.code with
  | none => .next s
  | some f => .next (s.decodeFrame f len rule block)

/-! ### Batches (R22, R50, R55, R171) -/

/-- The frame of a batch that is new or between two of its entries, with its progress if it is. -/
def State.batchFrame (s : State) (q : Request) : Option (Frame × Option BatchProgress) :=
  if s.mayDecode then
    match s.link.accepted, s.link.decoding with
    | f :: _, .idle => if f.kind == q.code then some (f, none) else none
    | f :: _, .batch p => if f.kind == q.code then some (f, some p) else none
    | _, _ => none
  else none

/-- What the writes of one entry's taking leave: the state, the reason if the entry is refused, and the events
it raises, which the Monitor Unit takes at the end of that taking (R144). -/
structure EntryTaken where
  state : State
  reason : Option Reason
  events : List Event

/-- An entry refused that raises nothing. -/
def State.refuseEntry (s : State) (r : Reason) : EntryTaken := ⟨s, some r, []⟩

/-- Entries of a batch taken: the progress, the state after the writes of the last one, and its events, which
end its taking. -/
structure EntriesTaken where
  progress : BatchProgress
  state : State
  events : List Event

/-- One entry's outcome added to the progress of its batch (R171). -/
def BatchProgress.note (p : BatchProgress) : Option Reason → BatchProgress
  | none => { p with taken := p.taken + 1, accepted := p.accepted + 1 }
  | some r => { p with taken := p.taken + 1, refused := p.refused ++ [⟨p.taken, r⟩] }

/-- The end of an entry's taking: its events, and then the arbiter's choice (R144, R174; log 6). -/
def EntriesTaken.settle (b : EntriesTaken) : State := (b.state.takeEvents b.events).arbitrate

/-- The next entry of a batch, after the end of the taking before it (R22, R144). -/
def EntriesTaken.next (apply : List Byte → State → EntryTaken) (b : EntriesTaken) (e : List Byte) :
    EntriesTaken :=
  let taken := apply e b.settle
  ⟨b.progress.note taken.reason, taken.state, taken.events⟩

/-- Entries taken one at a time, in batch order, from a state between two takings (R22, R23). -/
def takeEntries (apply : List Byte → State → EntryTaken) (es : List (List Byte)) (p : BatchProgress)
    (s : State) : EntriesTaken :=
  es.foldl (EntriesTaken.next apply) ⟨p, s, []⟩

/-- The batch answer's result (R171). -/
def BatchProgress.result (p : BatchProgress) : Result :=
  if p.refused = [] then .ok else .partialBatch

/-- The answer of a batch joins, built in the taking of its last entry, whose events end that taking (R169,
R144). -/
def EntriesTaken.answered (b : EntriesTaken) (f : Frame) : State :=
  EntriesTaken.settle
    { b with
      state :=
        b.state.joinAnswer f b.progress.result (.batch b.progress.accepted b.progress.refused) }

/-- A batch stands between two of its entries (R23; log 4). -/
def EntriesTaken.paused (b : EntriesTaken) : State :=
  EntriesTaken.settle
    { b with state := { b.state with link := { b.state.link with decoding := .batch b.progress } } }

/-- A batch whose checks have passed takes up to `n` of its remaining entries; when none remains its answer
is built in the taking of the last (R169), otherwise it stands between two entries (R23; log 4). -/
def State.continueBatch (s : State) (f : Frame) (size : Nat) (apply : List Byte → State → EntryTaken)
    (p : BatchProgress) (n : Nat) : State :=
  let rest := (batchEntries size f.body).drop p.taken
  let taken := takeEntries apply (rest.take n) p s
  if rest.length ≤ n then taken.answered f else taken.paused

/-- The step of a batch: step 2 of R170, the check of every entry's codes, and then its entries. -/
def State.runBatch (s : State) (q : Request) (codesOk : List Byte → Bool)
    (apply : List Byte → State → EntryTaken) (n : Nat) :
    Host.Outcome State Fault Refusal :=
  match s.batchFrame q with
  | none => .next s
  | some (f, some p) => .next (s.continueBatch f (entrySize q) apply p n)
  | some (f, none) =>
    match batchFault (entrySize q) f.body with
    | some r => .next (s.joinAnswer f r .empty)
    | none =>
      if (batchEntries (entrySize q) f.body).all codesOk then
        .next (s.continueBatch f (entrySize q) apply ⟨0, 0, []⟩ n)
      else .next (s.joinAnswer f .badField .empty)

end Sys2Proof.Machine
end

