-- ==== Sys2Proof/Machine/Quality.lean ====
section
/-! DEFINITION. The Quality Tracker's requests: QUALITY_BATCH, TRACK_SETUP, RATE_TABLE (chapter 2). -/

namespace Sys2Proof.Machine

/-- The record before its sample is filtered: a LOST subscriber becomes ACTIVE and its sampled track's
settle restarts (R24). -/
def Subscriber.recover (u : Subscriber) (d : Direction) (c : TrackSetup) : Subscriber :=
  if u.life = .lost then
    { u.putTrack d { u.tracks.get d with settle := c.settle } with life := .active }
  else u

/-- The anchor reference a sample records: the fast estimate of a live anchor, in the same direction
(R32). -/
def State.anchorRef (s : State) (u : Subscriber) (d : Direction) : Option Nat :=
  (u.anchor.bind s.lookup).map fun a => (a.tracks.get d).f

/-- A track with a sample recorded (R32). -/
def Track.recorded (t : Track) (now : U32) (ref : Option Nat) : Track :=
  { t with lastSample := now, aRef := ref }

/-- The record after a sample of value `v`, and the events it raises (R23). -/
def State.sampled (s : State) (u : Subscriber) (d : Direction) (v : Nat) :
    Subscriber × Bool × Bool :=
  let u' := u.recover d s.trackSetup
  let (t, entered, reseeded) :=
    (u'.tracks.get d).takeSample s.trackSetup (clampQuality v * 16)
  (u'.putTrack d (t.recorded s.ranker.passIndex (s.anchorRef u d)), entered, reseeded)

/-- An event about a subscriber's direction, with the newest frame (R31, R51, R57). -/
def State.subjectEvent (s : State) (k : EventKind) (d : Direction) (h : Handle) (c : Fin 8) : Event :=
  { kind := k, dir := some d, who := some ⟨h, c⟩, frame := s.ranker.newest }

/-- The events of a sample, in the order its steps raise them (R28, R30, R31). -/
def State.fadeEvents (s : State) (d : Direction) (h : Handle) (c : Fin 8)
    (entered reseeded : Bool) : List Event :=
  (if entered then [s.subjectEvent .fadeEnter d h c] else [])
    ++ (if reseeded then [s.subjectEvent .fadeReseed d h c] else [])

/-- A quality sample taken whole for a live handle, and the events it raises (R23, R31). -/
def State.takeSample (s : State) (h : Handle) (u : Subscriber) (d : Direction) (v : Nat) : EntryTaken :=
  let (u', entered, reseeded) := s.sampled u d v
  ⟨s.putSub h.slot u', none, s.fadeEvents d h u.cls entered reseeded⟩

/-- One entry of a QUALITY_BATCH: handle, direction, value (R22). -/
def qualityEntry (e : List Byte) (s : State) : EntryTaken :=
  match s.lookup (handleAtOffset e 0), dirOf (num1 e 2) with
  | some u, some d => s.takeSample (handleAtOffset e 0) u d (num1 e 3)
  | _, _ => s.refuseEntry .unknownHandle

/-- The direction code of an entry names DL or UL (R22, R50). -/
def entryDirOk (e : List Byte) : Bool := (dirOf (num1 e 2)).isSome

/-- QUALITY_BATCH (R22). -/
def execQualityBatch (entries : Nat) (s : State) : Host.Outcome State Fault Refusal :=
  s.runBatch .qualityBatch entryDirOk qualityEntry entries

/-- The block's part of TRACK_SETUP (R43, R44). -/
def trackSetupBlock (b : List Byte) (s : State) : Reply :=
  match parseTrackSetup b with
  | none => s.refuse .badField
  | some c => State.accept { s with trackSetup := c }

/-- TRACK_SETUP (R43). -/
def execTrackSetup (s : State) : Host.Outcome State Fault Refusal :=
  s.runRequest .trackSetup 11 anyState trackSetupBlock

/-- The state rule of RATE_TABLE (R41, R170). -/
def configOnly (s : State) : Option Result :=
  if s.link.device = .config then none else some .wrongState

/-- The block's part of RATE_TABLE (R41). -/
def rateTableBlock (b : List Byte) (s : State) : Reply :=
  match parseRateTable b with
  | none => s.refuse .badField
  | some t => State.accept { s with rateTable := t }

/-- RATE_TABLE (R41). R41 has it refused WRONG_STATE in SERVICE "whatever its contents"; its length is
judged before (R170). -/
def execRateTable (s : State) : Host.Outcome State Fault Refusal :=
  s.runRequest .rateTable 24 configOnly rateTableBlock

end Sys2Proof.Machine
end

