-- ==== Sys2Proof/Machine/Backlog.lean ====
section
/-! DEFINITION. The Backlog Unit: grant writes, retirement, QUEUE_BATCH and OUTCOME_BATCH (chapter 3). -/

namespace Sys2Proof.Machine

/-! ### The history ring (R47 to R49) -/

/-- Whether an entry is valid when the newest frame is `n` (R47). -/
def HistoryEntry.valid (e : HistoryEntry) (n : U16) : Bool :=
  e.written && decide (frameAge n e.frame ≤ 3)

/-- An entry under the new newest frame `n`: unwritten at age 4 or more, its other fields kept (R48). -/
def HistoryEntry.retire (n : U16) (e : HistoryEntry) : HistoryEntry :=
  if frameAge n e.frame ≥ 4 then { e with written := false } else e

/-- A demand group with its aged entries retired (R48). -/
def Demand.retire (n : U16) (g : Demand) : Demand := { g with ring := g.ring.map (·.retire n) }

/-- A record with both its rings retired (R48). -/
def Subscriber.retire (n : U16) (u : Subscriber) : Subscriber :=
  { u with demand := ⟨u.demand.dl.retire n, u.demand.ul.retire n⟩ }

/-- A demand group with every entry unwritten and no stamp (R60). -/
def Demand.forget (g : Demand) : Demand :=
  { g with stamp := none, ring := g.ring.map fun e => { e with written := false } }

/-- A record with both its rings and stamps cleared (R60). -/
def Subscriber.forget (u : Subscriber) : Subscriber :=
  { u with demand := ⟨u.demand.dl.forget, u.demand.ul.forget⟩ }

/-- A grant written for frame `n`, the served bytes off the backlog in the same taking (R49). -/
def Demand.writeGrant (g : Demand) (n : U16) (kind : GrantKind) (tiles served : Nat) : Demand :=
  { g with
    ring := g.ring.set (ringPos n)
      { written := true, frame := n, kind := kind, tiles := tiles, served := served,
        outcome := .pending }
    backlog := g.backlog - served }

/-! ### Queue reports (R50 to R53) -/

/-- The correction C of a report stamped `stamp`: served over the valid entries later than it (R52). -/
def Demand.correction (g : Demand) (n stamp : U16) : Nat :=
  (g.ring.toList.map fun e => if e.valid n && later e.frame stamp then e.served else 0).sum

/-- The first check of R51 that applies: accepted with its correction, or refused with its reason. -/
def Demand.judgeReport (g : Demand) (newest : Option U16) (stamp : U16) : Except Reason Nat :=
  match newest with
  | none => .ok 0
  | some n =>
    if later stamp n then .error .future
    else if frameAge n stamp ≥ 4 then .error .stale
    else if (g.stamp.map fun last => earlier stamp last).getD false then .error .stale
    else .ok (g.correction n stamp)

/-- Whether check 3 of R51 refuses the report, which raises REPORT_STALE. -/
def reportTooOld (newest : Option U16) (stamp : U16) : Bool :=
  match newest with
  | none => false
  | some n => !later stamp n && decide (frameAge n stamp ≥ 4)

/-- A demand group after an accepted report (R52). -/
def Demand.report (g : Demand) (stamp : U16) (count c : Nat) : Demand :=
  { g with backlog := count - c, stamp := some stamp }

/-- A queue report for a live handle, its byte count saturated (R50, R51, R52). -/
def State.takeReport (s : State) (h : Handle) (u : Subscriber) (d : Direction) (stamp : U16)
    (count : Nat) : EntryTaken :=
  match (u.demand.get d).judgeReport s.ranker.newest stamp with
  | .ok c =>
    ⟨s.putSub h.slot
      (u.putDemand d ((u.demand.get d).report stamp (min count Config.maxBacklog) c)), none, []⟩
  | .error r =>
    ⟨s, some r,
      if reportTooOld s.ranker.newest stamp then [s.subjectEvent .reportStale d h u.cls] else []⟩

/-- One entry of a QUEUE_BATCH: handle, direction, stamp, byte count (R50). -/
def queueEntry (e : List Byte) (s : State) : EntryTaken :=
  match s.lookup (handleAtOffset e 0), dirOf (num1 e 2) with
  | some u, some d => s.takeReport (handleAtOffset e 0) u d (frameAt e 3) (num4 e 5)
  | _, _ => s.refuseEntry .unknownHandle

/-- QUEUE_BATCH (R50). -/
def execQueueBatch (entries : Nat) (s : State) : Host.Outcome State Fault Refusal :=
  s.runBatch .queueBatch entryDirOk queueEntry entries

/-! ### Outcomes (R55 to R58) -/

/-- The reason R56 refuses an outcome for frame `f`, or none when it is accepted. -/
def Demand.judgeOutcome (g : Demand) (newest : Option U16) (f : U16) : Option Reason :=
  match newest with
  | none => some .noGrant
  | some n =>
    if frameAge n f ≥ 4 then some .stale
    else if !g.ring[ringPos f].written || g.ring[ringPos f].frame != f then some .noGrant
    else if g.ring[ringPos f].outcome != .pending then some .alreadyReported
    else none

/-- Whether a failed grant of frame `f` is added back: unless the last report taken is stamped `f` or later
(R57, R130). A stamp exactly 32768 frames from `f` is neither `f` nor later (R1), so by R130 a failed grant of
the newest frame is added back; that one of an older frame is too is the model's choice (log 32). -/
def Demand.addsBack (g : Demand) (f : U16) : Bool :=
  match g.stamp with
  | none => true
  | some last => !(last == f || later last f)

/-- A demand group after an accepted FAILED outcome (R57 steps 1 and 2). -/
def Demand.failed (g : Demand) (f : U16) : Demand :=
  { g with
    backlog :=
      if g.addsBack f then min Config.maxBacklog (g.backlog + g.ring[ringPos f].served)
      else g.backlog
    ring := g.ring.set (ringPos f) { g.ring[ringPos f] with served := 0, outcome := .failed } }

/-- A demand group after an accepted DELIVERED outcome (R58). -/
def Demand.delivered (g : Demand) (f : U16) : Demand :=
  { g with ring := g.ring.set (ringPos f) { g.ring[ringPos f] with outcome := .delivered } }

/-- An accepted FAILED outcome taken whole: the demand group, the offset, the LINK_POOR latch, and the event it
raises (R57, R34). -/
def State.takeFailed (s : State) (h : Handle) (u : Subscriber) (d : Direction) (f : U16) : EntryTaken :=
  let t := u.tracks.get d
  let s1 := s.putSub h.slot
    ((u.putDemand d ((u.demand.get d).failed f)).putTrack d (t.failed s.trackSetup))
  ⟨if t.failedLatches s.trackSetup then s1.latchMember h.slot (.linkPoor d) else s1, none,
    [s.subjectEvent .outcomeFailed d h u.cls]⟩

/-- An accepted DELIVERED outcome taken whole (R58, R33). -/
def State.takeDelivered (s : State) (h : Handle) (u : Subscriber) (d : Direction) (f : U16) : EntryTaken :=
  ⟨s.putSub h.slot
    ((u.putDemand d ((u.demand.get d).delivered f)).putTrack d
      ((u.tracks.get d).delivered s.trackSetup)), none, []⟩

/-- An outcome for a live handle (R56). -/
def State.takeOutcome (s : State) (h : Handle) (u : Subscriber) (d : Direction) (f : U16)
    (isFailed : Bool) : EntryTaken :=
  match (u.demand.get d).judgeOutcome s.ranker.newest f with
  | some r => s.refuseEntry r
  | none => if isFailed then s.takeFailed h u d f else s.takeDelivered h u d f

/-- One entry of an OUTCOME_BATCH: handle, direction, frame, result (R55). -/
def outcomeEntry (e : List Byte) (s : State) : EntryTaken :=
  match s.lookup (handleAtOffset e 0), dirOf (num1 e 2), failedOf (num1 e 5) with
  | some u, some d, some isFailed =>
    s.takeOutcome (handleAtOffset e 0) u d (frameAt e 3) isFailed
  | _, _, _ => s.refuseEntry .unknownHandle

/-- The direction and result codes of an entry are in their lists (R55). -/
def outcomeCodesOk (e : List Byte) : Bool := entryDirOk e && (failedOf (num1 e 5)).isSome

/-- OUTCOME_BATCH (R55). -/
def execOutcomeBatch (entries : Nat) (s : State) : Host.Outcome State Fault Refusal :=
  s.runBatch .outcomeBatch outcomeCodesOk outcomeEntry entries

end Sys2Proof.Machine
end

