-- ==== Sys2Proof/Machine/Delivery.lean ====
section
/-! DEFINITION. Grant map delivery: the chunk assemblers, the grant section, the purge at a pass start and
MESSAGE_SENT (chapter 7, with R133, R174). -/

namespace Sys2Proof.Machine

/-! ### The grant section and the assemblers (R132, R134 to R136) -/

/-- A notice joins the tail of the grant section, WAITING, with its pass (R132). -/
def State.queueGrant (s : State) (n : GrantNotice) (pass : U32) : State :=
  { s with notices := { s.notices with grants := s.notices.grants ++ [⟨n, .waiting, pass⟩] } }

/-- The state with the assembler of a direction replaced. -/
def State.putAssembler (s : State) (d : Direction) (a : Assembler) : State :=
  { s with notices := { s.notices with assemblers := s.notices.assemblers.put d a } }

/-- An assembler opened for a pass (R134). -/
def openedAssembler (frame : U16) (pass : U32) (chunk : Nat) : Assembler :=
  { stage := .opened, frame := frame, passIndex := pass, chunk := chunk, pending := [], seq := 0 }

/-- The chunk an assembler would queue now: all its pending records (R135, R136). -/
def Assembler.chunkOf (a : Assembler) (d : Direction) : GrantNotice :=
  .chunk { frame := a.frame, dir := d, seq := a.seq, records := a.pending }

/-- The pending records of an assembler queued as one chunk (R135, R136). -/
def State.queueChunk (s : State) (d : Direction) (a : Assembler) : State :=
  (s.queueGrant (a.chunkOf d) a.passIndex).putAssembler d { a with pending := [], seq := a.seq + 1 }

/-- A grant record joins its assembler; a full chunk is queued in the same taking (R135). -/
def State.handRecord (s : State) (d : Direction) (g : GrantRecord) : State :=
  let a := s.notices.assemblers.get d
  let a' := { a with pending := a.pending ++ [g] }
  if a'.pending.length = a.chunk then s.queueChunk d a' else s.putAssembler d a'

/-- The assembler of an ended Placer flushed and closed (R136). -/
def State.flush (s : State) (d : Direction) : State :=
  let a := s.notices.assemblers.get d
  let s' := if a.pending = [] then s else s.queueChunk d a
  s'.putAssembler d { s'.notices.assemblers.get d with stage := .closed }

/-! ### The purge (R139) -/

/-- An entry that the start of pass `pass` removes: WAITING, and of another pass. -/
def GrantEntry.purged (pass : U32) (e : GrantEntry) : Bool :=
  e.mark == .waiting && e.passIndex != pass

/-- The grant traffic of earlier passes that has not begun transmission is removed; MAP_PURGED is latched
with the frame of the new pass when anything was (R139). -/
def State.purge (s : State) (pass : U32) (frame : U16) : State :=
  let s' : State :=
    { s with
      notices := { s.notices with grants := s.notices.grants.filter fun e => !e.purged pass } }
  if s.notices.grants.any fun e => e.purged pass then s'.latchDevice .mapPurged (some frame) else s'

/-! ### MESSAGE_SENT (R133, R173) -/

/-- The message on TXD leaves its queue or section, and the line is free. -/
def State.leaveLine (s : State) (t : Transmission) : State :=
  let s' : State := { s with link := { s.link with tx := none } }
  match t.source with
  | .answers => { s' with link := { s'.link with answers := s.link.answers.tail } }
  | .grants => { s' with notices := { s.notices with grants := s.notices.grants.tail } }
  | .general => { s' with notices := { s.notices with general := s.notices.general.tail } }

/-- Whether the message that has been sent was the answer of an accepted RESTART: it is the last answer
of the queue, since nothing is decoded after it (R178). -/
def State.restartAnswerSent (s : State) (t : Transmission) : Bool :=
  s.link.restart == .answerQueued && t.source == .answers && s.link.answers.length == 1

/-- MESSAGE_SENT: the message leaves, and the arbiter chooses the next (R133, R174). After the answer of an
accepted RESTART the device reset is due, and no choice is made (R178; log 14). With the line free there
is no last byte to send, and nothing changes (log 1). -/
def execMessageSent (s : State) : Host.Outcome State Fault Refusal :=
  match s.link.tx with
  | none => .next s
  | some t =>
    if s.restartAnswerSent t then
      let s' := s.leaveLine t
      .next { s' with link := { s'.link with restart := .resetDue } }
    else .next (s.leaveLine t).arbitrate

end Sys2Proof.Machine
end

