-- ==== Sys2Proof/Machine/EnergyBudget.lean ====
section
/-! DEFINITION. The Energy Budget Controller: segment selection, the pass allowance, ENERGY_REPORT and
ENERGY_TABLE (chapter 4). -/

namespace Sys2Proof.Machine

/-- The segment map r(y) = 1 + the number of boundaries at or above y, y taken as 255 at most (R65). -/
def EnergyTable.segmentOf (t : EnergyTable) (y : Nat) : Nat :=
  1 + t.bounds.toList.countP fun b => decide (b ≥ min y 255)

/-- Segment selection from segment `c` on reading `x` (R66). -/
def EnergyTable.select (t : EnergyTable) (c x : Nat) : Nat :=
  if t.segmentOf x < c then t.segmentOf x
  else if t.segmentOf (x + t.hysteresis) > c then t.segmentOf (x + t.hysteresis)
  else c

/-- The controller after a report (R66). -/
def Energy.report (e : Energy) (x : Nat) : Energy :=
  { e with segment := e.table.select e.segment x, reading := some x, age := 0, stale := false }

/-- The block's part of ENERGY_REPORT (R66). -/
def energyReportBlock (b : List Byte) (s : State) : Reply :=
  State.accept { s with energy := s.energy.report (num1 b 0) }

/-- ENERGY_REPORT (R66). -/
def execEnergyReport (s : State) : Host.Outcome State Fault Refusal :=
  s.runRequest .energyReport 1 anyState energyReportBlock

/-- The block's part of ENERGY_TABLE (R63, R64). -/
def energyTableBlock (b : List Byte) (s : State) : Reply :=
  match parseEnergyTable b with
  | none => s.refuse .badField
  | some t => State.accept { s with energy := { s.energy with table := t } }

/-- ENERGY_TABLE (R63). -/
def execEnergyTable (s : State) : Host.Outcome State Fault Refusal :=
  s.runRequest .energyTable 26 anyState energyTableBlock

/-! ### The pass allowance (R68 to R75) -/

/-- The reading age after the first step's increase (R68). -/
def Energy.agedBy1 (e : Energy) : Nat :=
  if e.reading.isSome && decide (e.age < Config.maxReadingAge) then e.age + 1 else e.age

/-- The stale condition, judged on the increased age (R68). -/
def Energy.staleNow (e : Energy) (timeout : Nat) : Bool :=
  e.reading.isNone || decide (e.agedBy1 > timeout)

/-- Step 1: age, staleness, the forced segment (R68, R69). -/
def Energy.judgeStale (e : Energy) (timeout : Nat) : Energy :=
  { e with
    age := e.agedBy1
    stale := e.staleNow timeout
    segment := if e.staleNow timeout then 5 else e.segment }

/-- Whether the stale condition begins here, which latches ENERGY_STALE (R68). -/
def Energy.staleBegins (e : Energy) (timeout : Nat) : Bool := e.staleNow timeout && !e.stale

/-- The graded target of a segment 2..4 (R71). -/
def Energy.gradedTarget (e : Energy) : Nat :=
  let seg := e.segment
  let low := e.table.bound seg
  let high := e.table.bound (seg - 1)
  let x := max low (min ((e.reading).getD 0) high)
  e.table.budget seg + (e.table.budget (seg - 1) - e.table.budget seg) * (x - low) / (high - low)

/-- Step 2: the target budget (R70). -/
def Energy.target (e : Energy) : Nat :=
  if e.table.graded && decide (2 ≤ e.segment ∧ e.segment ≤ 4) then e.gradedTarget
  else e.table.budget e.segment

/-- Step 3: the active budget moved toward a target (R72). -/
def Energy.moved (e : Energy) (t : Nat) : Nat :=
  if e.active < t then (if e.table.riseJump then t else min t (e.active + e.table.slew))
  else if t < e.active then (if e.table.fallJump then t else max t (e.active - e.table.slew))
  else e.active

/-- The controller after the first three steps of an allowance (R75). -/
def Energy.afterAllowance (e : Energy) (timeout : Nat) : Energy :=
  let e1 := e.judgeStale timeout
  { e1 with active := e1.moved e1.target }

/-- Step 4: the allowance formed from the controller as the first three steps left it (R73, R74). -/
def Energy.allowance (e : Energy) (emergency : Bool) : Allowance :=
  if e.table.lift && emergency then ⟨max e.active (e.table.budget 1), e.table.carrier 1, e.segment⟩
  else ⟨e.active, e.table.carrier e.segment, e.segment⟩

end Sys2Proof.Machine
end

