-- ==== Sys2Proof/Machine/Construction.lean ====
section
/-! DEFINITION. Candidate construction: the lost check, the credit rule, candidacy, the snapshot, the slot
view, the order of the lists, and the start of placement (sections 5.4 to 5.6). -/

namespace Sys2Proof.Machine

/-! ### One slot (R84 to R90) -/

/-- Whether an ACTIVE subscriber is found LOST: the larger of its two sample ages exceeds the lost limit
(R85). -/
def State.foundLost (s : State) (u : Subscriber) : Bool :=
  decide (max (u.tracks.dl.sampleAge s.ranker.passIndex) (u.tracks.ul.sampleAge s.ranker.passIndex)
    > s.ranker.setupCopy.lostLimit)

/-- The credit after the credit rule, for a profile's kind and the rate `g` of the direction (R86). -/
def creditRule (kind : ClassKind) (g : Nat) (backlog : Nat) (credit : Int) : Int :=
  match kind with
  | .guaranteed =>
    if backlog > 0 then max (-8 * (g : Int)) (min (credit + g) (8 * g))
    else max (-8 * (g : Int)) (min credit g)
  | .emergency => 0
  | .bestEffort => 0

/-- The record with both credits updated (R86). -/
def State.applyCredit (s : State) (u : Subscriber) : Subscriber :=
  let p := s.profileCopy u.cls
  { u with
    service :=
      ⟨{ u.service.dl with
          credit := creditRule p.kind p.rate.dl u.demand.dl.backlog u.service.dl.credit },
        { u.service.ul with
          credit := creditRule p.kind p.rate.ul u.demand.ul.backlog u.service.ul.credit }⟩ }

/-- Whether a subscriber is a data candidate in a direction (R87). -/
def State.dataCandidate (s : State) (u : Subscriber) (d : Direction) : Bool :=
  decide ((u.demand.get d).backlog > 0 ∧ s.passStep u d ≥ 1)

/-- Passes since the last uplink grant, or since admission when there has been none (R88). -/
def State.passesUngranted (s : State) (u : Subscriber) : Nat :=
  passesSince s.ranker.passIndex (u.service.ul.lastGrant.getD u.admitIndex)

/-- Whether a subscriber that is no uplink data candidate is a poll candidate (R88). -/
def State.pollCandidate (s : State) (u : Subscriber) : Bool :=
  let p := (s.profileCopy u.cls).poll
  decide (p > 0 ∧ u.demand.ul.backlog = 0 ∧ s.passesUngranted u ≥ p)

/-- The metric before fade defer (R92). -/
def metric (r w avg : Nat) : Nat := min 65535 (r * w * 4096 / max avg 16)

/-- The metric after fade defer (R93). -/
def deferred (m : Nat) (fade : FadeState) (shift : Nat) : Nat :=
  match fade with
  | .faded => m / 2 ^ shift
  | .leaving => m / 2 ^ shift
  | .steady => m
  | .entering => m

/-- Tier of a data candidate (R91). -/
def dataTier (d : Direction) (kind : ClassKind) (credit : Int) : Nat :=
  match kind, d with
  | .emergency, _ => 0
  | .guaranteed, .dl => if credit > 0 then 1 else 2
  | .guaranteed, .ul => if credit > 0 then 2 else 3
  | .bestEffort, .dl => 2
  | .bestEffort, .ul => 3

/-- Order key of a data candidate (R94): the metric in a metric tier, the credit in a guaranteed tier. -/
def dataKey (kind : ClassKind) (credit : Int) (m : Nat) : OrderKey :=
  match kind with
  | .emergency => .tie
  | .guaranteed => if credit > 0 then .credit credit else .metric m
  | .bestEffort => .metric m

/-- The snapshot of a data candidate of a record whose credit rule has been applied (R89, R42). -/
def State.dataSnapshot (s : State) (h : Handle) (u : Subscriber) (d : Direction) : Candidate :=
  let p := s.profileCopy u.cls
  let step := s.passStep u d
  let r := s.payloadOf step
  let fade := (u.tracks.get d).fade
  let v := u.service.get d
  { handle := h
    kind := .data
    cls := u.cls
    tier := dataTier d p.kind v.credit
    key := dataKey p.kind v.credit (deferred (metric r p.weight v.avg) fade p.defer)
    rateStep := step
    r := r
    fade := fade
    backlog := (u.demand.get d).backlog
    maxTiles := p.maxTiles.get d
    minTiles := p.minTiles
    dlCost := match d with | .dl => u.dlCost | .ul => 0
    ulCap := match d with | .dl => 0 | .ul => u.ulCap
    extended := match d with
      | .dl => false
      | .ul => decide (u.timing > s.ranker.setupCopy.guard) }

/-- The snapshot of a poll candidate: step 1 and its r, backlog 0, tier 1 of the UL list (R89, R91). -/
def State.pollSnapshot (s : State) (h : Handle) (u : Subscriber) : Candidate :=
  let p := s.profileCopy u.cls
  { handle := h
    kind := .poll
    cls := u.cls
    tier := 1
    key := .tie
    rateStep := 1
    r := s.payloadOf 1
    fade := u.tracks.ul.fade
    backlog := 0
    maxTiles := p.maxTiles.ul
    minTiles := p.minTiles
    dlCost := 0
    ulCap := u.ulCap
    extended := decide (u.timing > s.ranker.setupCopy.guard) }

/-- What a slot adds to a direction's list (R87, R88). -/
def State.candidatesOf (s : State) (h : Handle) (u : Subscriber) : Direction → List Candidate
  | .dl => if s.dataCandidate u .dl then [s.dataSnapshot h u .dl] else []
  | .ul =>
    if s.dataCandidate u .ul then [s.dataSnapshot h u .ul]
    else if s.pollCandidate u then [s.pollSnapshot h u]
    else []

/-- The slot view construction writes (R90). -/
def seenView (h : Handle) (u : Subscriber) (active : Bool) : SlotView :=
  { seen := some h, active := active, backlog := ⟨u.demand.dl.backlog, u.demand.ul.backlog⟩,
    grant := .both none }

/-- The state with a slot view replaced. -/
def State.putView (s : State) (n : Nat) (v : SlotView) : State :=
  { s with ranker := { s.ranker with views := s.ranker.views.setIfInBounds n v } }

/-- The slot view of a slot. -/
def State.view (s : State) (n : Nat) : SlotView := (s.ranker.views[n]?).getD clearedView

/-- Candidates added to the lists under construction. -/
def State.addCandidates (s : State) (dl ul : List Candidate) : State :=
  { s with
    ranker :=
      { s.ranker with lists := ⟨s.ranker.lists.dl ++ dl, s.ranker.lists.ul ++ ul⟩ } }

/-- The taking of a slot whose subscriber becomes LOST (R85). -/
def State.loseSubscriber (s : State) (n : Nat) (u : Subscriber) : State :=
  let h := s.handleAt n
  let s1 := (s.putSub n { u with life := .lost }).putView n (seenView h u false)
  (s1.latchMember n .lost).takeEvent
    { kind := .lostEnter, dir := none, who := some ⟨h, u.cls⟩, frame := s.ranker.newest } none

/-- The taking of a slot whose subscriber is ACTIVE and passes the lost check (R86 to R90). -/
def State.considerSubscriber (s : State) (n : Nat) (u : Subscriber) : State :=
  let h := s.handleAt n
  let u' := s.applyCredit u
  let s1 := (s.putSub n u').putView n (seenView h u' true)
  s1.addCandidates (s.candidatesOf h u' .dl) (s.candidatesOf h u' .ul)

/-- Construction's taking of slot `n` (R84). -/
def State.constructAt (s : State) (n : Nat) : State :=
  match (s.slot n).sub with
  | none => s
  | some u =>
    match u.life with
    | .active => if s.foundLost u then s.loseSubscriber n u else s.considerSubscriber n u
    | .suspended => s.putView n (seenView (s.handleAt n) u false)
    | .lost => s.putView n (seenView (s.handleAt n) u false)

/-! ### The order of a list (R94) -/

/-- The number an order key orders by, descending. -/
def OrderKey.value : OrderKey → Int
  | .tie => 0
  | .credit c => c
  | .metric m => m

/-- A slot's place in tie order, P = N mod 96 (R94). -/
def tieKey (n : U16) (slot : Nat) : Nat := (slot + (96 - n.toNat % 96)) % 96

/-- Whether candidate a comes before candidate b: tier, then key descending, then tie order (R94). -/
def comesBefore (n : U16) (a b : Candidate) : Bool :=
  decide (a.tier < b.tier
    ∨ (a.tier = b.tier ∧ (a.key.value > b.key.value
        ∨ (a.key.value = b.key.value ∧ tieKey n a.handle.slot < tieKey n b.handle.slot))))

/-- A candidate put in its place in an ordered list. -/
def insertCandidate (n : U16) (c : Candidate) : List Candidate → List Candidate
  | [] => [c]
  | x :: xs => if comesBefore n c x then c :: x :: xs else x :: insertCandidate n c xs

/-- A list ordered (R94). -/
def orderCandidates (n : U16) : List Candidate → List Candidate
  | [] => []
  | c :: cs => insertCandidate n c (orderCandidates n cs)

/-! ### The start of placement (R75, R95, R110, R134) -/

/-- Whether a candidate list holds a candidate of an EMERGENCY class (R74). -/
def State.emergencyListed (s : State) (cs : List Candidate) : Bool :=
  cs.any fun c => (s.profileCopy c.cls).kind == .emergency

/-- The pass allowance taken whole (R75): the controller's three steps, ENERGY_STALE when the stale
condition begins, and the allowance for the pass. -/
def State.takeAllowance (s : State) (emergency : Bool) : State :=
  let timeout := s.ranker.setupCopy.energyTimeout
  let e := s.energy.afterAllowance timeout
  let s1 : State :=
    { s with energy := e, ranker := { s.ranker with allowance := e.allowance emergency } }
  if s.energy.staleBegins timeout then s1.latchDevice .energyStale s.ranker.newest else s1

/-- A Placer started (R110). -/
def startedPlacer (list : List Candidate) (carriers : Nat) : Placer :=
  { stage := .running, list := list, next := 1, carriers := carriers, ptrCarrier := 0, ptrTile := 0,
    pool := Config.carrierTiles * carriers, grants := 0, tiles := 0, guards := 0, reached := 0 }

/-- The frame number of the pass in flight: N, which is present while a pass is in flight (R79). -/
def State.passFrame (s : State) : U16 := s.ranker.newest.getD 0#16

/-- Both lists ordered (R95). -/
def State.orderLists (s : State) : State :=
  { s with
    ranker :=
      { s.ranker with
        lists :=
          ⟨orderCandidates s.passFrame s.ranker.lists.dl,
            orderCandidates s.passFrame s.ranker.lists.ul⟩ } }

/-- Both Placers and both assemblers started in one taking with the allowance of the pass (R95, R110,
R134). -/
def State.startPlacers (s : State) : State :=
  let a := s.ranker.allowance
  { s with
    ranker := { s.ranker with stage := .placing }
    placers :=
      ⟨startedPlacer s.ranker.lists.dl a.carriers, startedPlacer s.ranker.lists.ul a.carriers⟩
    dlBudget := a.budget
    dlSpent := 0
    notices :=
      { s.notices with
        assemblers :=
          .both (openedAssembler s.passFrame s.ranker.passIndex s.ranker.setupCopy.chunk) } }

/-- Construction ends: the lists are ordered, the allowance is taken, and the Placers start (R95). -/
def State.beginPlacement (s : State) : State :=
  let s1 := s.orderLists
  (s1.takeAllowance (s1.emergencyListed s1.ranker.lists.dl)).startPlacers

/-- CONSTRUCT_SLOT: construction comes to the next slot; past slot 95 it ends (R84, R95). Outside the
CONSTRUCTING stage, or held in reset, the step does not occur (log 1). -/
def execConstructSlot (s : State) : Host.Outcome State Fault Refusal :=
  if s.ranker.stage = .constructing ∧ s.link.resetHeld = false then
    let s1 := s.constructAt s.ranker.nextSlot
    let s2 : State := { s1 with ranker := { s1.ranker with nextSlot := s.ranker.nextSlot + 1 } }
    .next (if s.ranker.nextSlot + 1 ≥ Config.slotCount then s2.beginPlacement.arbitrate
      else s2.arbitrate)
  else .next s

end Sys2Proof.Machine
end

