-- ==== Sys2Proof/Machine/PassStart.lean ====
section
/-! DEFINITION. The start of a pass and the deferred answers of FRAME_MARK and SERVICE_OFF (R82, R83, R100). -/

namespace Sys2Proof.Machine

/-- Whether frame `f` skips frames after the newest frame (R81). -/
def skipsFrames (newest : Option U16) (f : U16) : Bool :=
  match newest with
  | none => false
  | some n => later f n && decide ((f - n).toNat ≥ 2)

/-- The Ranker after a pass start for frame `f` (R83). The lists of the last pass go with it (log 24). -/
def Ranker.started (k : Ranker) (f : U16) (profiles : Vector Profile 8) : Ranker :=
  { k with
    passIndex := k.passIndex + 1#32
    newest := some f
    stage := .constructing
    cause := none
    timer := .running
    setupCopy := k.setup
    profileCopy := profiles
    lists := .both []
    views := Vector.replicate 96 clearedView
    nextSlot := 0 }

/-- A pass starts for frame `f`: the Ranker's start, the retirement of aged history entries, and the purge
of the grant section (R83, R48, R139). -/
def State.startPass (s : State) (f : U16) : State :=
  let s1 : State := { s with ranker := s.ranker.started f s.profiles }
  (s1.mapSubs (·.retire f)).purge s1.ranker.passIndex f

/-- The FRAME_GAP event of a pass start for frame `f`: no direction, no subscriber (R81, R144). -/
def frameGapEvent (f : U16) : Event := { kind := .frameGap, dir := none, who := none, frame := some f }

/-- The answer of the frame at the head of the accepted frames. -/
def State.answerHead (s : State) (r : Result) : State :=
  match s.link.accepted with
  | f :: _ => s.joinAnswer f r .empty
  | [] => s

/-- The taking of an accepted FRAME_MARK's pass start: the start, the answer built in that taking (R82), and
at its end, after its writes, the FRAME_GAP event of a frame that skips others (R81, R83, R144). -/
def State.startMarkedPass (s : State) (f : U16) : State :=
  let t := (s.startPass f).answerHead .ok
  if skipsFrames s.ranker.newest f then (t.takeEvent (frameGapEvent f) none).arbitrate else t

/-- What a decoding that waited for the end of the pass does now: an accepted FRAME_MARK starts its pass and
is answered, an accepted SERVICE_OFF enters CONFIG and is answered (R82, R99, R100, R177; log 20). -/
def State.resolveDeferred (s : State) : State :=
  match s.link.decoding with
  | .frameMark f => s.startMarkedPass f
  | .serviceOff => State.answerHead { s with link := { s.link with device := .config } } .ok
  | .idle => s
  | .batch _ => s

end Sys2Proof.Machine
end

