-- ==== Sys2Proof/Machine/Completion.lean ====
section
/-! DEFINITION. The end of a Placer and the completion of a pass: accounting, alerts, events, counters and
MAP_END (section 5.8, R128, R138). -/

namespace Sys2Proof.Machine

/-! ### Accounting of one direction of one slot (R102 to R104) -/

/-- The average after a completion, `payload` bytes served (R102). -/
def averaged (avg payload k : Nat) : Nat :=
  min Config.maxBacklog (avg - avg / 2 ^ k + payload * 16 / 2 ^ k)

/-- Whether the starve count of a direction advances: seen waiting with data and not granted (R103). -/
def starves (grant : Option GrantView) (backlog : Nat) : Bool := grant.isNone && decide (backlog > 0)

/-- The starve count after a completion (R103). -/
def starveAfter (count : Nat) (grant : Option GrantView) (backlog limit : Nat) : Nat :=
  if grant.isSome then 0
  else if backlog > 0 then (if count + 1 ≥ limit then 0 else count + 1)
  else count

/-- Whether a completion latches STARVED (R103). -/
def starveLatches (count : Nat) (grant : Option GrantView) (backlog limit : Nat) : Bool :=
  starves grant backlog && decide (count + 1 ≥ limit)

/-- Whether a subscriber ends the pass short: GUARANTEED, g above 0, credit at least 4g (R104). -/
def fallsShort (kind : ClassKind) (g : Nat) (credit : Int) : Bool :=
  kind == .guaranteed && decide (g > 0) && decide (credit ≥ 4 * (g : Int))

/-- The shortfall count after a completion (R104). -/
def shortfallAfter (count : Nat) (short : Bool) (limit : Nat) : Nat :=
  if short then (if count + 1 ≥ limit then 0 else count + 1) else 0

/-- Whether a completion latches SHORTFALL (R104). -/
def shortfallLatches (count : Nat) (short : Bool) (limit : Nat) : Bool :=
  short && decide (count + 1 ≥ limit)

/-- The payload the slot view records for the occupant of a slot: 0 for a view of another handle (R102). R102
also has a subscriber "resumed during the pass" accounted with 0: for one that the pass saw ACTIVE and granted,
and that was then suspended and resumed, taking the view's payload is the model's choice (log 33). -/
def viewPayload (v : SlotView) (h : Handle) (d : Direction) : Nat :=
  if v.seen = some h then ((v.grant.get d).map GrantView.payload).getD 0 else 0

/-- Whether the pass saw the occupant of a slot ACTIVE (R103, R104). -/
def seenActive (v : SlotView) (h : Handle) : Bool := decide (v.seen = some h) && v.active

/-- A service group after a completion, for a subscriber that is ACTIVE (R102 to R104). -/
def Service.accounted (x : Service) (p : PassSetup) (prof : Profile) (v : SlotView) (h : Handle)
    (d : Direction) : Service :=
  { x with
    avg := averaged x.avg (viewPayload v h d) p.k
    starve :=
      if seenActive v h then starveAfter x.starve (v.grant.get d) (v.backlog.get d) p.starveLimit
      else x.starve
    shortfall :=
      if seenActive v h then
        shortfallAfter x.shortfall (fallsShort prof.kind (prof.rate.get d) x.credit)
          p.shortfallLimit
      else x.shortfall }

/-- The members a completion latches in one direction, in their order (R101, R103, R104). -/
def Service.latches (x : Service) (p : PassSetup) (prof : Profile) (v : SlotView) (h : Handle)
    (d : Direction) : List Member :=
  if seenActive v h then
    (if starveLatches x.starve (v.grant.get d) (v.backlog.get d) p.starveLimit then [.starved d]
      else [])
    ++ (if shortfallLatches x.shortfall (fallsShort prof.kind (prof.rate.get d) x.credit)
          p.shortfallLimit then [.shortfall d] else [])
  else []

/-- The accounting of one slot: both directions, then their latches in order (R101 to R104). The class is the
one the record holds now, its profile the pass's copy: for a class that a LINK_UPDATE has changed since the
pass constructed the slot, R14 has both "the pass keeps the values it copied" and "every later use", and this
is the model's choice (log 31). -/
def State.accountSlot (s : State) (n : Nat) : State :=
  match (s.slot n).sub with
  | none => s
  | some u =>
    if u.life = .active then
      let h := s.handleAt n
      let v := s.view n
      let p := s.ranker.setupCopy
      let prof := s.profileCopy u.cls
      let u' : Subscriber :=
        { u with
          service :=
            ⟨u.service.dl.accounted p prof v h .dl, u.service.ul.accounted p prof v h .ul⟩ }
      (u.service.dl.latches p prof v h .dl ++ u.service.ul.latches p prof v h .ul).foldl
        (fun s m => s.latchMember n m) (s.putSub n u')
    else s

/-- The accounting of every slot, in ascending order (R101). -/
def State.account (s : State) : State :=
  (List.range Config.slotCount).foldl State.accountSlot s

/-! ### Completion (R101, R105) -/

/-- The candidates a Placer did not reach (R109). -/
def Placer.unreached (p : Placer) : List Candidate := p.list.drop p.reached

/-- The events a completion raises, in order: UNREACHED of the DL list, of the UL list, TRUNCATION (R103,
R105). -/
def State.completionEvents (s : State) : List Event :=
  let unreached (d : Direction) : List Event :=
    (s.placers.get d).unreached.map fun c =>
      { kind := .unreached, dir := some d, who := some ⟨c.handle, c.cls⟩, frame := s.ranker.newest }
  unreached .dl ++ unreached .ul
    ++ (if s.ranker.cause.isSome then
          [{ kind := .truncation, dir := none, who := none, frame := s.ranker.newest }]
        else [])

/-- The completion cause that MAP_END reports (R101). -/
def mapCause : Option Cause → MapCause
  | none => .complete
  | some .deadline => .deadline
  | some .preempted => .preempted
  | some .stopped => .stopped

/-- The figures of one Placer (R105). -/
def Placer.figures (p : Placer) : MapFigures :=
  { grants := p.grants, tiles := p.tiles, guards := p.guards, unreached := p.unreached.length }

/-- The MAP_END of the pass in flight (R105, R138). -/
def State.mapEnd (s : State) : MapEnd :=
  { frame := s.passFrame
    cause := mapCause s.ranker.cause
    figures := ⟨s.placers.dl.figures, s.placers.ul.figures⟩
    budget := s.ranker.allowance.budget
    spent := s.dlSpent
    segment := s.ranker.allowance.segment
    carriers := s.ranker.allowance.carriers }

/-- The fixed counters increased (R105, R145). -/
def MonitorUnit.countPass (m : MonitorUnit) (dl ul : Nat) : MonitorUnit :=
  { m with
    passes := m.passes + 1#32
    dlTiles := m.dlTiles + BitVec.ofNat 32 dl
    ulTiles := m.ulTiles + BitVec.ofNat 32 ul }

/-- DEADLINE latched when the pass was truncated by it, with the frame of the pass (R97). -/
def State.latchDeadline (s : State) : State :=
  if s.ranker.cause = some .deadline then s.latchDevice .deadline s.ranker.newest else s

/-- The pass stage, the cause and the timer after completion (R96, R101). -/
def Ranker.finished (k : Ranker) : Ranker := { k with stage := .idle, cause := none, timer := .idle }

/-- The completion of the pass, in the taking of the end of its last Placer (R101). -/
def State.complete (s : State) : State :=
  let s1 := s.account.latchDeadline
  let s2 := s1.queueGrant (.mapEnd s.mapEnd) s.ranker.passIndex
  let s3 : State :=
    { s2 with
      ranker := s2.ranker.finished
      monitor := s2.monitor.countPass s.placers.dl.tiles s.placers.ul.tiles }
  (s3.takeEvents s.completionEvents).arbitrate

/-! ### The end of a Placer (R128) -/

/-- Whether a Placer has ended. -/
def Placer.hasEnded (p : Placer) : Bool :=
  match p.stage with
  | .ended _ => true
  | .idle => false
  | .running => false

/-- The state with the Placer of a direction replaced. -/
def State.putPlacer (s : State) (d : Direction) (p : Placer) : State :=
  { s with placers := s.placers.put d p }

/-- A Placer ends: its stage, the flush of its assembler; and when the other has ended too, the completion
of the pass in the same taking, and then, in the same step, what waited for it (R128, R101, R136; log 20). -/
def State.endPlacer (s : State) (d : Direction) (why : EndReason) : State :=
  let s1 := (s.putPlacer d { s.placers.get d with stage := .ended why }).flush d
  if (s1.placers.get (otherDir d)).hasEnded then s1.complete.resolveDeferred else s1.arbitrate

/-- A truncation taken in the CONSTRUCTING stage: the lists as far as they were built, the allowance, both
Placers started and stopped before their first candidate, the completion (R98). -/
def State.truncateConstruction (s : State) : State :=
  (s.beginPlacement.endPlacer .dl .stopped).endPlacer .ul .stopped

/-- A truncation: the cause, if none stands; at once its effect in the CONSTRUCTING stage, and for the
Placers to find in the PLACING stage (R96 to R100). -/
def State.truncate (s : State) (c : Cause) : State :=
  let s1 : State := { s with ranker := { s.ranker with cause := some (s.ranker.cause.getD c) } }
  match s.ranker.stage with
  | .idle => s
  | .constructing => s1.truncateConstruction
  | .placing => s1

end Sys2Proof.Machine
end

