-- ==== Sys2Proof/Machine/Pass.lean ====
section
/-! DEFINITION. The Ranker's requests and its timer: FRAME_MARK, PASS_SETUP, DEADLINE_EXPIRY (chapter 5). -/

namespace Sys2Proof.Machine

/-- The judgement of a frame mark against the newest frame: nothing when it is accepted (R81). -/
def judgeFrame (newest : Option U16) (f : U16) : Option Result :=
  match newest with
  | none => none
  | some n =>
    if f = n then some .duplicateFrame
    else if later f n then none
    else some .outOfOrderFrame

/-- A decoding that waits for the end of the pass in flight, if there is one: resolved at once when no
pass is in flight, after the truncation's completion otherwise (R82, R99, R100). -/
def State.deferUntilIdle (s : State) (waiting : Decoding) (c : Cause) : State :=
  let s1 : State := { s with link := { s.link with decoding := waiting } }
  match s.ranker.stage with
  | .idle => s1.resolveDeferred
  | .constructing => s1.truncate c
  | .placing => s1.truncate c

/-- FRAME_MARK on the frame taken up (R170, R81, R82, R99). -/
def State.decodeFrameMark (s : State) (f : Frame) : State :=
  if f.body.length ≠ 2 then s.joinAnswer f .badLength .empty
  else if s.link.device = .config then s.joinAnswer f .wrongState .empty
  else
    match judgeFrame s.ranker.newest (frameAt f.body 0) with
    | some r => s.joinAnswer f r .empty
    | none => s.deferUntilIdle (.frameMark (frameAt f.body 0)) .preempted

/-- FRAME_MARK (R81). -/
def execFrameMark (s : State) : Host.Outcome State Fault Refusal :=
  match s.takeUp fun f => f.kind == Request.frameMark.code with
  | none => .next s
  | some f => .next (s.decodeFrameMark f)

/-- The block's part of PASS_SETUP (R106, R107). -/
def passSetupBlock (b : List Byte) (s : State) : Reply :=
  match parsePassSetup b with
  | none => s.refuse .badField
  | some p => State.accept { s with ranker := { s.ranker with setup := p } }

/-- PASS_SETUP (R106). -/
def execPassSetup (s : State) : Host.Outcome State Fault Refusal :=
  s.runRequest .passSetup 14 anyState passSetupBlock

/-- DEADLINE_EXPIRY: the running timer expires; if no cause stands, the pass is truncated with cause
DEADLINE (R96). With the timer not running, or held in reset, the step does not occur (log 1). -/
def execDeadlineExpiry (s : State) : Host.Outcome State Fault Refusal :=
  if s.ranker.timer = .running ∧ s.link.resetHeld = false then
    let s1 : State := { s with ranker := { s.ranker with timer := .expired } }
    .next (if s.ranker.cause.isSome then s1 else s1.truncate .deadline)
  else .next s

end Sys2Proof.Machine
end

