-- ==== Sys2Proof/Machine/Placement.lean ====
section
/-! DEFINITION. Resource placement: one candidate from the live check to a grant or a skip (chapter 6). -/

namespace Sys2Proof.Machine

/-! ### How many tiles (R114 to R118) -/

/-- What the tile count of a candidate comes to. `sliver t`: skipped, with the tiles it would have had. -/
inductive TileCount where
  | grant (t : Nat)
  | power
  | sliver (t : Nat)
deriving DecidableEq, Repr

/-- The want of a candidate: 1 for a poll, otherwise the backlog at its rate, cut by the class cap and on
the uplink by the UL cap (R114, R115). -/
def Candidate.want (c : Candidate) (d : Direction) : Nat :=
  match c.kind, d with
  | .poll, _ => 1
  | .data, .dl => min (ceilDiv c.backlog c.r) c.maxTiles
  | .data, .ul => min (min (ceilDiv c.backlog c.r) c.maxTiles) c.ulCap

/-- The sliver rule on `t` tiles (R118). -/
def Candidate.sliverRule (c : Candidate) (d : Direction) (t : Nat) : TileCount :=
  if t < c.minTiles ∧ t < c.want d then .sliver t else .grant t

/-- The tile count of a candidate against the remaining pool and, on the downlink, the remaining budget
(R114 to R118). -/
def Candidate.tileCount (c : Candidate) (d : Direction) (pool budget : Nat) : TileCount :=
  match d with
  | .dl =>
    if budget / c.dlCost = 0 then .power
    else c.sliverRule .dl (min (min (c.want .dl) (budget / c.dlCost)) pool)
  | .ul => if c.ulCap = 0 then .power else c.sliverRule .ul (min (c.want .ul) pool)

/-! ### Where the tiles go (R119 to R121) -/

/-- The place of a grant along the line: its runs, its guard tiles (0 or 1), and the fill pointer after it. -/
structure Layout where
  run1 : Run
  run2 : Option Run
  guards : Nat
  ptrCarrier : Nat
  ptrTile : Nat
deriving DecidableEq, Repr

/-- The fill pointer moved to tile `tile` of carrier `carrier`, on to carrier 1 when that ends carrier 0
of a two-carrier pass (R119). -/
def pointerAt (carriers carrier tile : Nat) : Nat × Nat :=
  if tile ≥ Config.carrierTiles ∧ carrier = 0 ∧ carriers = 2 then (1, 0) else (carrier, tile)

/-- Where `t` tiles from the fill pointer lie, and the guard tile an extended-range run that does not end
its carrier consumes (R120, R121). -/
def layOut (p : Placer) (t : Nat) (extended : Bool) : Layout :=
  let m := Config.carrierTiles - p.ptrTile
  if t ≤ m then
    let guarded := extended && decide (p.ptrTile + t < Config.carrierTiles)
    let g := if guarded then 1 else 0
    let ptr := pointerAt p.carriers p.ptrCarrier (p.ptrTile + t + g)
    { run1 := ⟨p.ptrCarrier, p.ptrTile, t, guarded⟩, run2 := none, guards := g,
      ptrCarrier := ptr.1, ptrTile := ptr.2 }
  else
    let guarded := extended && decide (t - m < Config.carrierTiles)
    let g := if guarded then 1 else 0
    { run1 := ⟨p.ptrCarrier, p.ptrTile, m, false⟩, run2 := some ⟨1, 0, t - m, guarded⟩, guards := g,
      ptrCarrier := 1, ptrTile := t - m + g }

/-! ### What a decision writes (R122 to R127) -/

/-- The planned payload of a grant of `t` tiles (R122). -/
def Candidate.payload (c : Candidate) (t : Nat) : Nat :=
  match c.kind with
  | .poll => 0
  | .data => min c.backlog (t * c.r)

/-- The credit after a grant (R125). -/
def grantCredit (kind : ClassKind) (g : Nat) (credit : Int) (served : Nat) : Int :=
  if kind = .guaranteed then max (credit - served) (-8 * (g : Int)) else credit

/-- The Placer after a grant of `t` tiles laid out as `l` (R119, R123). -/
def Placer.granted (p : Placer) (t : Nat) (l : Layout) : Placer :=
  { p with
    next := p.next + 1
    reached := p.reached + 1
    ptrCarrier := l.ptrCarrier
    ptrTile := l.ptrTile
    pool := p.pool - t - l.guards
    grants := p.grants + 1
    tiles := p.tiles + t
    guards := p.guards + l.guards }

/-- The Placer after a skip (R109, R119). -/
def Placer.skipped (p : Placer) : Placer := { p with next := p.next + 1, reached := p.reached + 1 }

/-- The record of a granted subscriber: history entry and backlog, last-grant pass index and credit (R124,
R125). -/
def State.grantedRecord (s : State) (u : Subscriber) (c : Candidate) (d : Direction) (t : Nat) :
    Subscriber :=
  let prof := s.profileCopy c.cls
  let v := u.service.get d
  (u.putDemand d ((u.demand.get d).writeGrant s.passFrame c.kind t (c.payload t))).putService d
    { v with
      lastGrant := some s.ranker.passIndex
      credit := grantCredit prof.kind (prof.rate.get d) v.credit (c.payload t) }

/-- The grant part of a slot view written (R124). -/
def SlotView.granted (v : SlotView) (d : Direction) (t payload : Nat) : SlotView :=
  { v with grant := v.grant.put d (some ⟨t, payload⟩) }

/-- The grant record handed to the assembler (R126). -/
def State.grantRecord (s : State) (c : Candidate) (d : Direction) (t : Nat) (l : Layout) :
    GrantRecord :=
  { frame := s.passFrame
    dir := d
    handle := c.handle
    tier := c.tier
    kind := c.kind
    rateStep := c.rateStep
    run1 := l.run1
    run2 := l.run2
    payload := c.payload t }

/-- A decision's report to the Monitor Unit: its event and its trace entry (R127). -/
def State.reportDecision (s : State) (d : Direction) (c : Candidate) (k : EventKind)
    (r : TraceResult) (tiles : Nat) : State :=
  s.takeEvent
    { kind := k, dir := some d, who := some ⟨c.handle, c.cls⟩, frame := s.ranker.newest }
    (some
      { frame := s.passFrame, dir := d, handle := c.handle, result := r, tiles := tiles,
        tier := c.tier })

/-- A candidate skipped: nothing is written to a record (R112, R118, R127). -/
def State.skipCandidate (s : State) (d : Direction) (c : Candidate) (k : EventKind)
    (r : TraceResult) (tiles : Nat) : State :=
  (s.putPlacer d (s.placers.get d).skipped).reportDecision d c k r tiles

/-- The downlink power a grant spends (R123); none on the uplink. -/
def State.spend (s : State) (d : Direction) (pq : Nat) : State :=
  match d with
  | .dl => { s with dlBudget := s.dlBudget - pq, dlSpent := s.dlSpent + pq }
  | .ul => s

/-- The event a grant of a kind raises, and its trace result (R127). -/
def grantEvent : GrantKind → EventKind × TraceResult
  | .data => (.grant, .granted)
  | .poll => (.pollGrant, .poll)

/-- A grant of `t` tiles, written and reported in one taking (R122 to R127). -/
def State.grantCandidate (s : State) (d : Direction) (c : Candidate) (u : Subscriber) (t : Nat) :
    State :=
  let l := layOut (s.placers.get d) t (match d with | .dl => false | .ul => c.extended)
  let s1 := s.putSub c.handle.slot (s.grantedRecord u c d t)
  let s2 := s1.putView c.handle.slot ((s.view c.handle.slot).granted d t (c.payload t))
  let s3 := (s2.putPlacer d ((s.placers.get d).granted t l)).spend d (t * c.dlCost)
  let s4 := s3.handRecord d (s.grantRecord c d t l)
  s4.reportDecision d c (grantEvent c.kind).1 (grantEvent c.kind).2 t

/-! ### Taking a candidate (R111 to R113) -/

/-- The subscriber of a candidate that passes the live check (R112). -/
def State.liveCandidate (s : State) (c : Candidate) : Option Subscriber :=
  match s.lookup c.handle with
  | some u => if u.life = .active then some u else none
  | none => none

/-- A candidate taken: live check, pool check, tile count, and then a grant or a skip (R111). -/
def State.placeCandidate (s : State) (d : Direction) (c : Candidate) : State :=
  match s.liveCandidate c with
  | none => s.skipCandidate d c .skipGone .skipGone 0
  | some u =>
    if (s.placers.get d).pool = 0 then s.endPlacer d .poolEmpty
    else
      match c.tileCount d (s.placers.get d).pool s.dlBudget with
      | .power => s.skipCandidate d c .skipPower .skipPower 0
      | .sliver t => s.skipCandidate d c .skipSliver .skipSliver t
      | .grant t => s.grantCandidate d c u t

/-- The candidate at the next position of a Placer's list. -/
def Placer.nextCandidate (p : Placer) : Option Candidate := p.list[p.next - 1]?

/-- A Placer that has finished the candidate it was working on: the arbiter's choice of that taking, and
then the check before the next candidate finds the truncation standing and the Placer ends (R97, R111); one
that ended on its own has ended. That both takings fall in one step, with no other step between them, is the
model's choice (log 22). -/
def State.stopAfter (s : State) (d : Direction) : State :=
  if (s.placers.get d).stage = .running then s.arbitrate.endPlacer d .stopped else s.arbitrate

/-- The check of R111 and what follows it. With a truncation cause standing the Placer ends STOPPED,
after the candidate it was working on if it had taken one up (R97; log 3): then the step holds the two
takings of `State.stopAfter`, the arbiter choosing after each (log 6, log 22). -/
def State.placerStep (s : State) (d : Direction) (begun : Bool) : State :=
  match s.ranker.cause, (s.placers.get d).nextCandidate with
  | none, none => s.endPlacer d .listDone
  | none, some c => (s.placeCandidate d c).arbitrate
  | some _, none => s.endPlacer d .stopped
  | some _, some c =>
    if begun then (s.placeCandidate d c).stopAfter d else s.endPlacer d .stopped

/-- PLACE_CANDIDATE of a RUNNING Placer (R111). Outside the PLACING stage, with the Placer not RUNNING, or
held in reset, the step does not occur (log 1). -/
def execPlaceCandidate (d : Direction) (begun : Bool) (s : State) :
    Host.Outcome State Fault Refusal :=
  if s.ranker.stage = .placing ∧ (s.placers.get d).stage = .running ∧ s.link.resetHeld = false then
    .next (s.placerStep d begun)
  else .next s

end Sys2Proof.Machine
end

