-- ==== Sys2Proof/Machine/LinkRequests.lean ====
section
/-! DEFINITION. The Link Interface's own requests: UNKNOWN_KIND_REQUEST, STATUS, RESTART, SERVICE_ON,
SERVICE_OFF, ALERT_CLEAR, ALERT_MASK (chapter 9). -/

namespace Sys2Proof.Machine

/-- UNKNOWN_KIND_REQUEST: a frame whose kind names no request (R170 step 1, R187). -/
def execUnknownKindRequest (s : State) : Host.Outcome State Fault Refusal :=
  match s.takeUp fun f => !isRequestKind f.kind with
  | none => .next s
  | some f => .next (s.joinAnswer f .unknownKind .empty)

/-- The block's part of STATUS: nothing changes (R170). -/
def statusBlock (_ : List Byte) (s : State) : Reply := s.accept

/-- STATUS (R170). -/
def execStatus (s : State) : Host.Outcome State Fault Refusal :=
  s.runRequest .status 0 anyState statusBlock

/-! ### RESTART (R178) -/

/-- The state rule of RESTART: BUSY while a pass is in flight (R170, R178). -/
def idleOnly (s : State) : Option Result := if s.inFlight then some .busy else none

/-- After the answer of an accepted RESTART has joined the queue: the waiting frames and the frame in
reception are discarded, and nothing more is decoded or received until the reset (R178; log 14). -/
def State.awaitRestart (s : State) : State :=
  { s with link := { s.link with accepted := [], rx := .hunt, restart := .answerQueued } }

/-- RESTART on the frame taken up (R178). -/
def State.decodeRestart (s : State) (f : Frame) : State :=
  if f.body.length ≠ 0 then s.joinAnswer f .badLength .empty
  else
    match idleOnly s with
    | some r => s.joinAnswer f r .empty
    | none => (s.joinAnswer f .ok .empty).awaitRestart

/-- RESTART (R178). -/
def execRestart (s : State) : Host.Outcome State Fault Refusal :=
  match s.takeUp fun f => f.kind == Request.restart.code with
  | none => .next s
  | some f => .next (s.decodeRestart f)

/-! ### SERVICE_ON and SERVICE_OFF (R176, R177) -/

/-- The state rule of SERVICE_ON (R170, R176). -/
def serviceOnRule (s : State) : Option Result :=
  if s.link.device = .service ∨ s.hasAlert .restarted then some .wrongState else none

/-- The block's part of SERVICE_ON (R176, R60). -/
def serviceOnBlock (_ : List Byte) (s : State) : Reply :=
  let s1 := s.mapSubs Subscriber.forget
  State.accept
    { s1 with
      ranker := { s.ranker with newest := none }
      link := { s.link with device := .service } }

/-- SERVICE_ON (R176). -/
def execServiceOn (s : State) : Host.Outcome State Fault Refusal :=
  s.runRequest .serviceOn 0 serviceOnRule serviceOnBlock

/-- SERVICE_OFF on the frame taken up (R177, R100). -/
def State.decodeServiceOff (s : State) (f : Frame) : State :=
  if f.body.length ≠ 0 then s.joinAnswer f .badLength .empty
  else if s.link.device = .config then s.joinAnswer f .wrongState .empty
  else s.deferUntilIdle .serviceOff .stopped

/-- SERVICE_OFF (R177). -/
def execServiceOff (s : State) : Host.Outcome State Fault Refusal :=
  match s.takeUp fun f => f.kind == Request.serviceOff.code with
  | none => .next s
  | some f => .next (s.decodeServiceOff f)

/-! ### ALERT_CLEAR and ALERT_MASK (R182, R184) -/

/-- Whether a kind bitmap names a kind beyond the fourteen (R182, R184). -/
def beyondKinds (bits : Nat) : Bool := decide (bits ≥ 2 ^ 14)

/-- Whether a kind bitmap chooses a device kind (R184). -/
def choosesDevice (bits : Nat) : Bool := decide (bits % 2 ^ 10 ≠ 0)

/-- The members a kind bitmap chooses, both directions of a directional kind (R184). -/
def chosenMembers (bits : Nat) : BitVec 7 :=
  BitVec.ofNat 7
    (Member.all.foldl (fun w m => if bits.testBit m.kind.code then w + 2 ^ m.bit else w) 0)

/-- The record with the chosen kinds removed from its alert set (R18, R184). -/
def Subscriber.clearKinds (u : Subscriber) (bits : Nat) : Subscriber :=
  { u with alerts := u.alerts &&& ~~~chosenMembers bits }

/-- ALERT_CLEAR without a handle: chosen device kinds and every subscriber's chosen kinds (R184). -/
def State.clearEverywhere (s : State) (bits : Nat) : State :=
  let s1 := s.mapSubs (·.clearKinds bits)
  { s1 with link := { s.link with alerts := s.link.alerts &&& ~~~BitVec.ofNat 10 bits } }

/-- ALERT_CLEAR with a handle, in the order of R184: slot, device kind, liveness. -/
def State.clearNamed (s : State) (h : Handle) (bits : Nat) : Reply :=
  if !slotExists h.slot || choosesDevice bits then s.refuse .badField
  else
    match s.lookup h with
    | none => s.refuse .unknownHandle
    | some u => (s.putSub h.slot (u.clearKinds bits)).accept

/-- The block's part of ALERT_CLEAR (R184). -/
def alertClearBlock (b : List Byte) (s : State) : Reply :=
  if beyondKinds (num2 b 0) then s.refuse .badField
  else
    match flagOf (num1 b 2) with
    | none => s.refuse .badField
    | some false => (s.clearEverywhere (num2 b 0)).accept
    | some true => s.clearNamed (handleAtOffset b 3) (num2 b 0)

/-- ALERT_CLEAR (R184). -/
def execAlertClear (s : State) : Host.Outcome State Fault Refusal :=
  s.runRequest .alertClear 5 anyState alertClearBlock

/-- The block's part of ALERT_MASK (R182). -/
def alertMaskBlock (b : List Byte) (s : State) : Reply :=
  if beyondKinds (num2 b 0) then s.refuse .badField
  else State.accept { s with link := { s.link with mask := BitVec.ofNat 14 (num2 b 0) } }

/-- ALERT_MASK (R182). -/
def execAlertMask (s : State) : Host.Outcome State Fault Refusal :=
  s.runRequest .alertMask 2 anyState alertMaskBlock

end Sys2Proof.Machine
end

