-- ==== Sys2Proof/Machine/MonitorRequests.lean ====
section
/-! DEFINITION. The Monitor Unit's requests: MONITOR_SETUP for a monitor and for the buffer, COUNTER_READ,
CAPTURE_READ, TRACE_READ and TRACE_RESUME (chapter 8). -/

namespace Sys2Proof.Machine

/-- Whether a frame is a MONITOR_SETUP that targets the capture buffer (R159). -/
def targetsBuffer (f : Frame) : Bool :=
  f.kind == Request.monitorSetup.code && f.body.length == 13 && num1 f.body 0 == bufferTarget

/-- The block's part of a MONITOR_SETUP of a monitor (R158). -/
def monitorSetupBlock (b : List Byte) (s : State) : Reply :=
  match parseMonitor b with
  | none => s.refuse .badField
  | some (i, m) => (s.putMonitor i m).accept

/-- MONITOR_SETUP whose target is not the capture buffer, or whose length is wrong (R158). -/
def execMonitorSetup (s : State) : Host.Outcome State Fault Refusal :=
  match s.takeUp fun f => f.kind == Request.monitorSetup.code && !targetsBuffer f with
  | none => .next s
  | some f => .next (s.decodeFrame f 13 anyState monitorSetupBlock)

/-- The block's part of a MONITOR_SETUP of the capture buffer (R159). -/
def bufferSetupBlock (b : List Byte) (s : State) : Reply :=
  match parseBuffer b with
  | none => s.refuse .badField
  | some (p, t) => State.accept { s with monitor := { s.monitor with policy := p, threshold := t } }

/-- MONITOR_SETUP whose target is the capture buffer (R159). -/
def execMonitorSetupBuffer (s : State) : Host.Outcome State Fault Refusal :=
  match s.takeUp targetsBuffer with
  | none => .next s
  | some f => .next (s.decodeFrame f 13 anyState bufferSetupBlock)

/-- The values COUNTER_READ returns (R160). -/
def State.counters (s : State) : CounterRead :=
  { passes := s.monitor.passes
    dlTiles := s.monitor.dlTiles
    ulTiles := s.monitor.ulTiles
    monitors := s.monitor.monitors
    frozen := s.monitor.frozen
    policy := s.monitor.policy
    threshold := s.monitor.threshold
    held := s.monitor.records.length }

/-- The four overflow flags cleared (R160). -/
def State.clearOverflows (s : State) : State :=
  { s with
    monitor :=
      { s.monitor with monitors := s.monitor.monitors.map fun m => { m with overflow := false } } }

/-- The block's part of COUNTER_READ; its clear option is a flag byte (R160, R185). -/
def counterReadBlock (b : List Byte) (s : State) : Reply :=
  match flagOf (num1 b 0) with
  | none => s.refuse .badField
  | some clear => ⟨if clear then s.clearOverflows else s, .ok, .counters s.counters⟩

/-- COUNTER_READ (R160). -/
def execCounterRead (s : State) : Host.Outcome State Fault Refusal :=
  s.runRequest .counterRead 1 anyState counterReadBlock

/-- The block's part of CAPTURE_READ (R161). -/
def captureReadBlock (b : List Byte) (s : State) : Reply :=
  let n := num1 b 0
  if 1 ≤ n ∧ n ≤ Config.captureCapacity then
    ⟨s.putRecords (s.monitor.records.drop n), .ok,
      .captures (s.monitor.records.drop n).length (s.monitor.records.take n)⟩
  else s.refuse .badField

/-- CAPTURE_READ (R161). -/
def execCaptureRead (s : State) : Host.Outcome State Fault Refusal :=
  s.runRequest .captureRead 1 anyState captureReadBlock

/-- The block's part of TRACE_READ (R157). -/
def traceReadBlock (_ : List Byte) (s : State) : Reply :=
  ⟨s, .ok, .trace s.monitor.frozen s.monitor.trace⟩

/-- TRACE_READ (R157). -/
def execTraceRead (s : State) : Host.Outcome State Fault Refusal :=
  s.runRequest .traceRead 0 anyState traceReadBlock

/-- The block's part of TRACE_RESUME (R157). -/
def traceResumeBlock (_ : List Byte) (s : State) : Reply :=
  State.accept { s with monitor := { s.monitor with frozen := false } }

/-- TRACE_RESUME (R157). -/
def execTraceResume (s : State) : Host.Outcome State Fault Refusal :=
  s.runRequest .traceResume 0 anyState traceResumeBlock

end Sys2Proof.Machine
end

