-- ==== Sys2Proof/Machine/Reception.lean ====
section
/-! DEFINITION. The receiving side of the control link: RECEIVE_BYTE, FRAMING_ERROR, FRAME_IDLE_TIMEOUT,
LINE_RETURN_TO_IDLE (sections 9.1 and 9.2). -/

namespace Sys2Proof.Machine

/-- The first sync byte (10 section 10.2). -/
def syncByte1 : Byte := 0xC3#8

/-- The second sync byte (10 section 10.2). -/
def syncByte2 : Byte := 0x3C#8

/-- Bytes of the inbound buffer a frame holds: kind, tag, length and body (R168). -/
def Frame.stored (f : Frame) : Nat := 4 + f.body.length

/-- Bytes of the inbound buffer the frame in reception holds (R168). -/
def Receiver.stored : Receiver → Nat
  | .hunt => 0
  | .sync => 0
  | .header got => got.length
  | .body _ _ _ got => 4 + got.length
  | .check _ _ got _ => 4 + got.length

/-- Bytes of the inbound buffer in use (R168). -/
def Link.occupied (l : Link) : Nat := (l.accepted.map Frame.stored).sum + l.rx.stored

/-- Whether the inbound buffer has room for one more byte (R168). -/
def State.hasRoom (s : State) : Bool := decide (s.link.occupied < Config.inboundBytes)

/-- Whether a frame is in reception (R165). -/
def Receiver.inFrame : Receiver → Bool
  | .hunt => false
  | .sync => false
  | .header _ => true
  | .body _ _ _ _ => true
  | .check _ _ _ _ => true

/-- The state with the frame receiver replaced. -/
def State.putRx (s : State) (r : Receiver) : State := { s with link := { s.link with rx := r } }

/-- The frame in reception discarded with a link alert, its bytes freed; the receiver hunts (R166, R167,
R168). -/
def State.discardFrame (s : State) (a : DeviceAlert) : State :=
  (s.putRx .hunt).latchDevice a s.ranker.newest

/-- The body length of a four-byte header (R165, 10 section 10.2). -/
def headerLength (hi lo : Byte) : Nat := hi.toNat * 256 + lo.toNat

/-- A header byte stored; the fourth is judged by R166. -/
def State.receiveHeader (s : State) (got : List Byte) (b : Byte) : State :=
  match got with
  | [kind, tag, hi] =>
    if headerLength hi b > Config.maxBody then s.discardFrame .linkFraming
    else if headerLength hi b = 0 then s.putRx (.check kind tag [] none)
    else s.putRx (.body kind tag (headerLength hi b) [])
  | _ => s.putRx (.header (got ++ [b]))

/-- A body byte stored; the last leads to CHECK (R165). -/
def State.receiveBody (s : State) (kind tag : Byte) (len : Nat) (got : List Byte) (b : Byte) : State :=
  if got.length + 1 = len then s.putRx (.check kind tag (got ++ [b]) none)
  else s.putRx (.body kind tag len (got ++ [b]))

/-- The CRC received: its high byte first (10 section 10.2). -/
def receivedCrc (hi lo : Byte) : U16 := BitVec.ofNat 16 (hi.toNat * 256 + lo.toNat)

/-- A frame accepted: it joins the request order, and the receiver hunts (R167). -/
def State.acceptFrame (s : State) (f : Frame) : State :=
  { s with link := { s.link with rx := .hunt, accepted := s.link.accepted ++ [f] } }

/-- A CRC byte; the second ends the frame (R165, R167). -/
def State.receiveCrc (s : State) (kind tag : Byte) (got : List Byte) (crcHigh : Option Byte)
    (b : Byte) : State :=
  match crcHigh with
  | none => s.putRx (.check kind tag got (some b))
  | some hi =>
    if receivedCrc hi b = crc (frameCovered kind tag got) then s.acceptFrame ⟨kind, tag, got⟩
    else s.discardFrame .linkCrc

/-- A good byte handed to the frame receiver (R165, R168). -/
def State.receive (s : State) (b : Byte) : State :=
  match s.link.rx with
  | .hunt => if b = syncByte1 then s.putRx .sync else s
  | .sync =>
    if b = syncByte2 then s.putRx (.header [])
    else if b = syncByte1 then s
    else s.putRx .hunt
  | .header got => if s.hasRoom then s.receiveHeader got b else s.discardFrame .linkOverrun
  | .body kind tag len got =>
    if s.hasRoom then s.receiveBody kind tag len got b else s.discardFrame .linkOverrun
  | .check kind tag got crcHigh => s.receiveCrc kind tag got crcHigh b

/-- Whether the receiver takes bytes: not while the part is held in reset (R179), nor while it waits for
the line to return to idle (R164). -/
def State.receiving (s : State) : Bool := !s.link.resetHeld && !s.link.rxAwaitIdle

/-- RECEIVE_BYTE (R165). After an accepted RESTART the byte is discarded (R178). While the receiver takes
no byte the step does not occur (log 1). -/
def execReceiveByte (b : Byte) (s : State) : Host.Outcome State Fault Refusal :=
  .next (if s.receiving && s.link.restart == .none then (s.receive b).arbitrate else s)

/-- FRAMING_ERROR: a byte with its stop bit at the active level, or a break (R164). A frame in reception is
discarded as a framing fault; otherwise the receiver returns to HUNT. It then waits for the line to
return to the idle level. -/
def execFramingError (s : State) : Host.Outcome State Fault Refusal :=
  if s.receiving then
    let s1 :=
      if s.link.rx.inFrame && s.link.restart == .none then s.discardFrame .linkFraming
      else s.putRx .hunt
    .next (State.arbitrate { s1 with link := { s1.link with rxAwaitIdle := true } })
  else .next s

/-- FRAME_IDLE_TIMEOUT: 200 µs without a byte discards a frame in reception as a framing fault, and returns
SYNC to HUNT (R166). -/
def execFrameIdleTimeout (s : State) : Host.Outcome State Fault Refusal :=
  if s.link.resetHeld then .next s
  else
    .next
      (if s.link.rx.inFrame && s.link.restart == .none then (s.discardFrame .linkFraming).arbitrate
        else s.putRx .hunt)

/-- LINE_RETURN_TO_IDLE: the receiver looks for the next start bit again (R164). -/
def execLineReturnToIdle (s : State) : Host.Outcome State Fault Refusal :=
  .next { s with link := { s.link with rxAwaitIdle := false } }

end Sys2Proof.Machine
end

