-- ==== Sys2Proof/Machine/Subscribers.lean ====
section
/-! DEFINITION. The Subscriber Table's requests: admission, release, suspension, resumption, link updates,
class profiles and reads (chapter 1). -/

namespace Sys2Proof.Machine

/-! ### ADMIT (R6, R7, R8) -/

/-- A track as admission builds it from the clamped initial quality (R8). -/
def newTrack (s : State) (q : Nat) : Track :=
  { f := q * 16, l := q * 16, fade := .steady, debounce := 0, fadeSamples := 0,
    settle := s.trackSetup.settle, offset := 0, poor := 0, lastSample := s.ranker.passIndex,
    aRef := none }

/-- An unwritten history entry as admission builds it; its other fields are the model's (log 10). -/
def unwrittenEntry : HistoryEntry :=
  { written := false, frame := 0#16, kind := .data, tiles := 0, served := 0, outcome := .pending }

/-- A demand group as admission builds it (R8, R46). -/
def newDemand : Demand := { backlog := 0, stamp := none, ring := Vector.replicate 4 unwrittenEntry }

/-- A service group as admission builds it (R8, R80). -/
def newService : Service := { avg := 0, credit := 0, starve := 0, shortfall := 0, lastGrant := none }

/-- The whole record of a new subscriber (R7, R8). -/
def newSubscriber (s : State) (a : AdmitFields) : Subscriber :=
  { life := .active
    cls := a.cls
    dlCost := a.dlCost
    ulCap := a.ulCap
    timing := a.timing
    anchor := a.anchor
    anchorWeight := a.anchorWeight
    admitIndex := s.ranker.passIndex
    alerts := 0#7
    tracks := ⟨newTrack s a.quality.dl, newTrack s a.quality.ul⟩
    demand := .both newDemand
    service := .both newService }

/-- A subscriber admitted into slot `n`, its generation advanced (R4, R7). -/
def State.admitInto (s : State) (n : Nat) (a : AdmitFields) : State :=
  s.putSlot n { gen := (s.slot n).gen + 1#8, sub := some (newSubscriber s a) }

/-- The block's part of ADMIT, judged in the order of R6. -/
def admitBlock (b : List Byte) (s : State) : Reply :=
  match parseAdmit b with
  | none => s.refuse .badField
  | some a =>
    if (a.anchor.map s.isLive).getD true then
      match s.lowestFree with
      | none => s.refuse .noSlot
      | some n => ⟨s.admitInto n a, .ok, .admitted ⟨n, (s.slot n).gen + 1#8⟩⟩
    else s.refuse .unknownHandle

/-- ADMIT (R7). -/
def execAdmit (s : State) : Host.Outcome State Fault Refusal :=
  s.runRequest .admission 12 anyState admitBlock

/-! ### Requests that name one live handle (R3) -/

/-- The subscriber a request names, judged as R3 states: BAD_FIELD for a slot above 95, UNKNOWN_HANDLE
for a handle that is not live. -/
def State.named (s : State) (h : Handle) : Except Result Subscriber :=
  if slotExists h.slot then
    match s.lookup h with
    | some u => .ok u
    | none => .error .unknownHandle
  else .error .badField

/-- A request whose body is one handle, applied to the subscriber it names. -/
def withNamed (act : Handle → Subscriber → State → Reply) (b : List Byte) (s : State) : Reply :=
  match s.named (handleAtOffset b 0) with
  | .ok u => act (handleAtOffset b 0) u s
  | .error r => s.refuse r

/-- A slot set FREE, its record dropped and its generation kept (R9). -/
def State.releaseSlot (s : State) (n : Nat) : State := s.putSlot n { s.slot n with sub := none }

/-- The block's part of RELEASE (R9). -/
def releaseBlock (h : Handle) (_ : Subscriber) (s : State) : Reply := (s.releaseSlot h.slot).accept

/-- RELEASE (R9). -/
def execRelease (s : State) : Host.Outcome State Fault Refusal :=
  s.runRequest .release 2 anyState (withNamed releaseBlock)

/-- The block's part of SUSPEND (R10). -/
def suspendBlock (h : Handle) (u : Subscriber) (s : State) : Reply :=
  match u.life with
  | .suspended => s.refuse .wrongState
  | .active => (s.putSub h.slot { u with life := .suspended }).accept
  | .lost => (s.putSub h.slot { u with life := .suspended }).accept

/-- SUSPEND (R10). -/
def execSuspend (s : State) : Host.Outcome State Fault Refusal :=
  s.runRequest .suspend 2 anyState (withNamed suspendBlock)

/-- A resumed record: ACTIVE, both credits 0 (R11). -/
def Subscriber.resumed (u : Subscriber) : Subscriber :=
  { u with
    life := .active
    service := ⟨{ u.service.dl with credit := 0 }, { u.service.ul with credit := 0 }⟩ }

/-- The block's part of RESUME (R11). -/
def resumeBlock (h : Handle) (u : Subscriber) (s : State) : Reply :=
  match u.life with
  | .suspended => (s.putSub h.slot u.resumed).accept
  | .active => s.refuse .wrongState
  | .lost => s.refuse .wrongState

/-- RESUME (R11). -/
def execResume (s : State) : Host.Outcome State Fault Refusal :=
  s.runRequest .resume 2 anyState (withNamed resumeBlock)

/-! ### LINK_UPDATE (R13, R14) -/

/-- Both tracks with no anchor reference (R14). -/
def Subscriber.dropRefs (u : Subscriber) : Subscriber :=
  { u with tracks := ⟨{ u.tracks.dl with aRef := none }, { u.tracks.ul with aRef := none }⟩ }

/-- The record with the anchor action applied (R14). -/
def Subscriber.applyAnchor (u : Subscriber) : AnchorAction → Subscriber
  | .keep => u
  | .set h => { u.dropRefs with anchor := some h }
  | .clear => { u.dropRefs with anchor := none }

/-- The record with every present field written (R13, R14). -/
def Subscriber.applyLink (u : Subscriber) (l : LinkFields) : Subscriber :=
  { u.applyAnchor l.anchor with
    cls := l.cls.getD u.cls
    dlCost := l.dlCost.getD u.dlCost
    ulCap := l.ulCap.getD u.ulCap
    timing := l.timing.getD u.timing
    anchorWeight := l.anchorWeight.getD u.anchorWeight }

/-- The block's part of LINK_UPDATE on a live handle: steps 2, 3 and 4 of R13. -/
def linkUpdateFields (b : List Byte) (h : Handle) (u : Subscriber) (s : State) : Reply :=
  match parseLink b with
  | none => s.refuse .badField
  | some l =>
    match l.anchor with
    | .set a =>
      if a.slot = h.slot then s.refuse .badField
      else if s.isLive a then (s.putSub h.slot (u.applyLink l)).accept
      else s.refuse .unknownHandle
    | .keep => (s.putSub h.slot (u.applyLink l)).accept
    | .clear => (s.putSub h.slot (u.applyLink l)).accept

/-- The block's part of LINK_UPDATE (R13). -/
def linkUpdateBlock (b : List Byte) (s : State) : Reply := withNamed (linkUpdateFields b) b s

/-- LINK_UPDATE (R13). -/
def execLinkUpdate (s : State) : Host.Outcome State Fault Refusal :=
  s.runRequest .linkUpdate 13 anyState linkUpdateBlock

/-! ### CLASS_PROFILE (R16) -/

/-- The block's part of CLASS_PROFILE (R16, R17). -/
def classProfileBlock (b : List Byte) (s : State) : Reply :=
  match parseProfile b with
  | none => s.refuse .badField
  | some (c, p) => State.accept { s with profiles := s.profiles.set c p }

/-- CLASS_PROFILE (R16). -/
def execClassProfile (s : State) : Host.Outcome State Fault Refusal :=
  s.runRequest .classProfile 12 anyState classProfileBlock

/-! ### SUBSCRIBER_READ (R19) -/

/-- The value a read shows of both tracks. -/
def PerDir.ofFun {α : Type} (f : Direction → α) : PerDir α := ⟨f .dl, f .ul⟩

/-- What a read returns of a subscriber (R19). -/
def State.readRecord (s : State) (h : Handle) (u : Subscriber) : SubscriberRead :=
  { handle := h
    sub := u
    anchorLive := (u.anchor.map s.isLive).getD false
    age := .ofFun fun d => (u.tracks.get d).sampleAge s.ranker.passIndex
    quality := .ofFun fun d => s.readQuality u d
    rateStep := .ofFun fun d => s.readStep u d }

/-- The block's part of SUBSCRIBER_READ: form 0 the handle form, form 1 the slot form (R19, R188). -/
def subscriberReadBlock (b : List Byte) (s : State) : Reply :=
  let h := handleAtOffset b 1
  match flagOf (num1 b 0) with
  | none => s.refuse .badField
  | some false =>
    match s.named h with
    | .ok u => ⟨s, .ok, .record (s.readRecord h u)⟩
    | .error r => s.refuse r
  | some true =>
    if slotExists h.slot then
      match (s.slot h.slot).sub with
      | some u => ⟨s, .ok, .record (s.readRecord (s.handleAt h.slot) u)⟩
      | none => ⟨s, .ok, .freeSlot h.slot (s.slot h.slot).gen⟩
    else s.refuse .badField

/-- SUBSCRIBER_READ (R19). -/
def execSubscriberRead (s : State) : Host.Outcome State Fault Refusal :=
  s.runRequest .subscriberRead 3 anyState subscriberReadBlock

end Sys2Proof.Machine
end

