-- ==== Sys2Proof/Machine/Dispatch.lean ====
section
/-! DEFINITION. One arm per command, each a direct call of its meaning. -/

namespace Sys2Proof.Machine

/-- The effect of a command on everything but the queue. -/
def exec (i : Instr) (s : State) : Host.Outcome State Fault Refusal :=
  match i with
  | .receiveByte b => Sys2Proof.Machine.execReceiveByte b s
  | .framingError => Sys2Proof.Machine.execFramingError s
  | .frameIdleTimeout => Sys2Proof.Machine.execFrameIdleTimeout s
  | .unknownKindRequest => Sys2Proof.Machine.execUnknownKindRequest s
  | .status => Sys2Proof.Machine.execStatus s
  | .restart => Sys2Proof.Machine.execRestart s
  | .serviceOn => Sys2Proof.Machine.execServiceOn s
  | .serviceOff => Sys2Proof.Machine.execServiceOff s
  | .alertClear => Sys2Proof.Machine.execAlertClear s
  | .alertMask => Sys2Proof.Machine.execAlertMask s
  | .rateTable => Sys2Proof.Machine.execRateTable s
  | .trackSetup => Sys2Proof.Machine.execTrackSetup s
  | .classProfile => Sys2Proof.Machine.execClassProfile s
  | .energyTable => Sys2Proof.Machine.execEnergyTable s
  | .passSetup => Sys2Proof.Machine.execPassSetup s
  | .admission => Sys2Proof.Machine.execAdmit s
  | .release => Sys2Proof.Machine.execRelease s
  | .suspend => Sys2Proof.Machine.execSuspend s
  | .resume => Sys2Proof.Machine.execResume s
  | .linkUpdate => Sys2Proof.Machine.execLinkUpdate s
  | .subscriberRead => Sys2Proof.Machine.execSubscriberRead s
  | .frameMark => Sys2Proof.Machine.execFrameMark s
  | .qualityBatch entries => Sys2Proof.Machine.execQualityBatch entries s
  | .queueBatch entries => Sys2Proof.Machine.execQueueBatch entries s
  | .outcomeBatch entries => Sys2Proof.Machine.execOutcomeBatch entries s
  | .energyReport => Sys2Proof.Machine.execEnergyReport s
  | .monitorSetup => Sys2Proof.Machine.execMonitorSetup s
  | .monitorSetupBuffer => Sys2Proof.Machine.execMonitorSetupBuffer s
  | .counterRead => Sys2Proof.Machine.execCounterRead s
  | .captureRead => Sys2Proof.Machine.execCaptureRead s
  | .traceRead => Sys2Proof.Machine.execTraceRead s
  | .traceResume => Sys2Proof.Machine.execTraceResume s
  | .messageSent => Sys2Proof.Machine.execMessageSent s
  | .powerOn b1 b0 => Sys2Proof.Machine.execPowerOn b1 b0 s
  | .resetLineAssert => Sys2Proof.Machine.execResetLineAssert s
  | .resetLineRelease b1 b0 => Sys2Proof.Machine.execResetLineRelease b1 b0 s
  | .restartReset b1 b0 => Sys2Proof.Machine.execRestartReset b1 b0 s
  | .constructSlot => Sys2Proof.Machine.execConstructSlot s
  | .placeCandidate d begun => Sys2Proof.Machine.execPlaceCandidate d begun s
  | .deadlineExpiry => Sys2Proof.Machine.execDeadlineExpiry s
  | .lineReturnToIdle => Sys2Proof.Machine.execLineReturnToIdle s

end Sys2Proof.Machine
end

