-- ==== Sys2Proof/Safety.lean ====
section
/-! DEFINITION. What a safe run keeps: the invariants of the part, and the frames that statements about
its commands are written with. -/

namespace Sys2Proof.Machine

/-! ### Frames -/

/-- The state with the arbiter's work blanked: no message on TXD, every notice WAITING. Two states equal
under it differ in nothing but what the arbiter has chosen. -/
def State.offLine (s : State) : State :=
  { s with
    link := { s.link with tx := none }
    notices :=
      { s.notices with
        grants := s.notices.grants.map fun e => { e with mark := .waiting }
        general := s.notices.general.map fun e => { e with mark := .waiting } } }

/-- The state with everything blanked that answering a request changes beside the request's own effect: the
answers, the accepted frames, the decoding under way, the arbiter's work, and the model's count of free
values drawn. -/
def State.inner (s : State) : State :=
  { s.offLine with
    link := { s.offLine.link with accepted := [], decoding := .idle, answers := [] }
    draws := 0 }

/-- The oldest accepted frame is `f`, and it may be taken up (R169, R178, R179). -/
def State.TakesUp (s : State) (f : Frame) : Prop :=
  s.link.resetHeld = false ∧ s.link.restart = .none ∧ s.link.answers.length < Config.answerCapacity
    ∧ s.link.decoding = .idle ∧ s.link.accepted.head? = some f

/-- `t` is a state in which the decoding of `f`, the oldest accepted frame of `s`, has just ended with one
answer: it carries the frame's kind and tag, the result, the data, and a status summary of `t` itself; the
frame has left the inbound buffer; a message that was being sent is still being sent (R169, R172, R173,
R174). -/
def State.Answered (s t : State) (f : Frame) (r : Result) (d : AnswerData) : Prop :=
  t.link.answers =
      s.link.answers ++ [{ kind := f.kind, tag := f.tag, result := r, summary := t.summary, data := d }]
    ∧ t.link.accepted = s.link.accepted.tail
    ∧ t.link.decoding = .idle
    ∧ (s.link.tx.isSome = true → t.link.tx = s.link.tx)

/-- `t` is `s'` with the decoding of the frame `f` ended by the answer `r` and `d` on the link of `s`; the
notices stand as in `s'`, marks included, while a message is being sent. -/
def State.AnsweredAs (s t : State) (f : Frame) (r : Result) (d : AnswerData) (s' : State) : Prop :=
  s.Answered t f r d ∧ t.inner = s'.inner ∧ (s.link.tx.isSome = true → t.notices = s'.notices)

/-- The command answers the frame `f` with `r` and `d`, and beside the answering the state becomes `s'`. -/
def State.AnswersWith (s : State) (c : Instr) (f : Frame) (r : Result) (d : AnswerData) (s' : State) :
    Prop :=
  ∃ t, exec c s = .next t ∧ s.AnsweredAs t f r d s'

/-- The command answers the frame `f` with the refusal `r`, and nothing else is changed. -/
def State.Refuses (s : State) (c : Instr) (f : Frame) (r : Result) : Prop :=
  s.AnswersWith c f r .empty s

/-- The receiver takes bytes (R164, R178, R179). -/
def State.Hears (s : State) : Prop :=
  s.link.resetHeld = false ∧ s.link.rxAwaitIdle = false ∧ s.link.restart = .none

/-- The requests of fixed body length, with their kind codes (R187) and lengths (R188). -/
def fixedRequests : List (Instr × Byte × Nat) :=
  [(.status, 0x01#8, 0), (.restart, 0x02#8, 0), (.serviceOn, 0x03#8, 0), (.serviceOff, 0x04#8, 0),
   (.alertClear, 0x05#8, 5), (.alertMask, 0x06#8, 2), (.rateTable, 0x08#8, 24),
   (.trackSetup, 0x09#8, 11), (.classProfile, 0x0A#8, 12), (.energyTable, 0x0B#8, 26),
   (.passSetup, 0x0C#8, 14), (.admission, 0x10#8, 12), (.release, 0x11#8, 2), (.suspend, 0x12#8, 2),
   (.resume, 0x13#8, 2), (.linkUpdate, 0x14#8, 13), (.subscriberRead, 0x15#8, 3),
   (.frameMark, 0x18#8, 2), (.energyReport, 0x1C#8, 1), (.monitorSetup, 0x20#8, 13),
   (.counterRead, 0x21#8, 1), (.captureRead, 0x22#8, 1), (.traceRead, 0x23#8, 0),
   (.traceResume, 0x24#8, 0)]

/-- The batches, with their kind codes (R187) and the size of one entry (R188). -/
def batchRequests : List ((Nat → Instr) × Byte × Nat) :=
  [(.qualityBatch, 0x19#8, 4), (.queueBatch, 0x1A#8, 9), (.outcomeBatch, 0x1B#8, 6)]

/-- The batch command `c`, its kind code, entry size, check of an entry's codes and taking of an entry. -/
def BatchOf (c : Nat → Instr) (kind : Byte) (size : Nat) (codesOk : List Byte → Bool)
    (apply : List Byte → State → EntryTaken) : Prop :=
  (c = .qualityBatch ∧ kind = 0x19#8 ∧ size = 4 ∧ codesOk = entryDirOk ∧ apply = qualityEntry)
    ∨ (c = .queueBatch ∧ kind = 0x1A#8 ∧ size = 9 ∧ codesOk = entryDirOk ∧ apply = queueEntry)
    ∨ (c = .outcomeBatch ∧ kind = 0x1B#8 ∧ size = 6 ∧ codesOk = outcomeCodesOk ∧ apply = outcomeEntry)

/-- A history entry retired under the newest frame `n` (R48), said of the entry's fields. -/
def retiredEntry (n : U16) (e : HistoryEntry) : HistoryEntry :=
  if 4 ≤ (n - e.frame).toNat then { e with written := false } else e

/-- A record with the aged entries of both its rings retired (R48). -/
def retiredRecord (n : U16) (u : Subscriber) : Subscriber :=
  { u with
    demand :=
      ⟨{ u.demand.dl with ring := u.demand.dl.ring.map (retiredEntry n) },
        { u.demand.ul with ring := u.demand.ul.ring.map (retiredEntry n) }⟩ }

/-- The state a pass start for frame `f` makes, before it latches anything (R83, R48, R139): the Ranker's
start, the retired records, and of the grant section what is SENDING or of the new pass. -/
def State.freshPass (s : State) (f : U16) : State :=
  { s with
    slots := s.slots.map fun x => { x with sub := x.sub.map (retiredRecord f) }
    ranker :=
      { s.ranker with
        passIndex := s.ranker.passIndex + 1#32
        newest := some f
        stage := .constructing
        cause := none
        timer := .running
        setupCopy := s.ranker.setup
        profileCopy := s.profiles
        lists := ⟨[], []⟩
        views := Vector.replicate 96 ⟨none, false, ⟨0, 0⟩, ⟨none, none⟩⟩
        nextSlot := 0 }
    notices :=
      { s.notices with
        grants :=
          s.notices.grants.filter fun e =>
            e.mark == .sending || e.passIndex == s.ranker.passIndex + 1#32 } }

/-- `t` is `s`, with no pass in flight, after the start that answers the FRAME_MARK `f` for frame `F` (R81 to
R83, R139, R144): the fresh pass, MAP_PURGED latched with frame `F` when the purge removed anything, the
answer OK with the summary of that state; and then, when `F` skips frames, the FRAME_GAP event with frame
`F`, no direction and no subscriber, and the arbiter's choice. -/
def State.PassStarts (s t : State) (f : Frame) (F : U16) : Prop :=
  let purged := s.notices.grants.any fun e =>
    e.mark == .waiting && e.passIndex != s.ranker.passIndex + 1#32
  let fresh := s.freshPass F
  ∃ x, s.AnsweredAs x f .ok .empty (if purged then fresh.latchDevice .mapPurged (some F) else fresh)
    ∧ ((s.ranker.newest = none ∨ ∃ n, s.ranker.newest = some n ∧ (F - n).toNat = 1) → t = x)
    ∧ ∀ n, s.ranker.newest = some n → 2 ≤ (F - n).toNat → (F - n).toNat ≤ 32767 →
        t = (x.takeEvent { kind := .frameGap, dir := none, who := none, frame := some F } none).arbitrate

/-- The Placer of a direction has ended STOPPED and its assembler has been flushed (R97, R136). -/
def State.stopPlacer (s : State) (d : Direction) : State :=
  State.flush
    { s with placers := s.placers.put d { s.placers.get d with stage := .ended .stopped } } d

/-- The pass under construction truncated with cause `c` (R98, R101): its lists are ordered as far as they were
built and its allowance is taken, both Placers start and end STOPPED before their first candidate, and the pass
completes. The arbiter chooses at the end of each Placer's end (log 6, log 23). -/
def State.cutConstruction (s : State) (c : Cause) : State :=
  let begun := State.beginPlacement { s with ranker := { s.ranker with cause := some c } }
  ((begun.stopPlacer .dl).arbitrate.stopPlacer .ul).complete

/-- Construction has taken a slot: it comes to the next one, or past slot 95 it ends and placement begins
(R84, R95). -/
def State.pastSlot (s : State) : State :=
  let s' : State := { s with ranker := { s.ranker with nextSlot := s.ranker.nextSlot + 1 } }
  if s.ranker.nextSlot = 95 then s'.beginPlacement.arbitrate else s'.arbitrate

/-- A Placer has ended with its flush: the other one still runs, or the pass completes in the same taking
and what waited for its completion is resolved (R101, R128). -/
def State.afterEnd (s : State) (d : Direction) : State :=
  if (s.placers.get (otherDir d)).hasEnded = true then s.complete.resolveDeferred else s.arbitrate

/-! ### The outbound side (R132, R133, R173, R174) -/

/-- No notice is SENDING. -/
def allWaiting (grants : List GrantEntry) (general : List GeneralEntry) : Prop :=
  (∀ e ∈ grants, e.mark = .waiting) ∧ (∀ e ∈ general, e.mark = .waiting)

/-- The message on TXD is the head of its source, and exactly the notice being sent is SENDING (R133). -/
def State.TxAgrees (s : State) : Prop :=
  match s.link.tx with
  | none => allWaiting s.notices.grants s.notices.general
  | some ⟨.answers, bytes⟩ =>
    (s.link.answers.head?.map answerFrame) = some bytes
      ∧ allWaiting s.notices.grants s.notices.general
  | some ⟨.grants, bytes⟩ =>
    (s.notices.grants.head?.map fun e => (grantNoticeFrame e.notice, e.mark)) = some (bytes, .sending)
      ∧ allWaiting s.notices.grants.tail s.notices.general
  | some ⟨.general, bytes⟩ =>
    (s.notices.general.head?.map fun e => (generalNoticeFrame e.notice, e.mark))
        = some (bytes, .sending)
      ∧ allWaiting s.notices.grants s.notices.general.tail

/-- A decoding that waits for the end of a pass (R169). -/
def Decoding.waits : Decoding → Bool
  | .frameMark _ => true
  | .serviceOff => true
  | .idle => false
  | .batch _ => false

/-- The outbound side: the message on TXD agrees with its source; the line is free only when nothing is
offered, the part is held in reset or a restart's reset is due; the answer queue and the general section
stay within their capacities (the grant section's bound is in `State.GrantInv`); a decoding under way has its frame, and room for its answer if it waits. -/
def State.LineInv (s : State) : Prop :=
  s.TxAgrees
    ∧ (s.link.tx = none → s.link.resetHeld = false → s.link.restart ≠ .resetDue →
        s.link.answers = [] ∧ s.notices.grants = [] ∧ s.notices.general = [])
    ∧ s.link.answers.length ≤ Config.answerCapacity
    ∧ s.notices.general.length ≤ Config.generalCapacity
    ∧ (s.link.decoding.waits = true → s.link.answers.length < Config.answerCapacity)
    ∧ (s.link.decoding ≠ .idle → s.link.accepted ≠ [])
    ∧ (s.link.restart = .answerQueued → s.link.answers ≠ [])
    ∧ (s.link.restart = .resetDue → s.link.tx = none)
    ∧ (s.link.restart ≠ .none → s.link.decoding = .idle ∧ s.link.accepted = [])

/-! ### The pass (R79, R96 to R101, R109) -/

/-- A Placer is RUNNING or has ENDED, and its assembler is OPEN exactly while it is RUNNING (R134, R136). -/
def placerInPass (p : Placer) (a : Assembler) : Prop :=
  (p.stage = .running ∧ a.stage = .opened) ∨ (p.hasEnded = true ∧ a.stage = .closed)

/-- The pass: with the stage IDLE no cause stands and the timer is idle; a pass in flight has the device in
SERVICE, a newest frame and a timer that is not idle; under construction no cause stands and a slot is still
to come; in placement the Placers are RUNNING or ENDED, never both ENDED; a Placer is RUNNING in placement
alone; a FRAME_MARK or SERVICE_OFF waits only for a pass that is being truncated; a cause DEADLINE means an
expired timer; no pass is in flight after an accepted RESTART. -/
def State.PassInv (s : State) : Prop :=
  (s.ranker.stage = .idle → s.ranker.cause = none ∧ s.ranker.timer = .idle)
    ∧ (s.ranker.stage ≠ .idle →
        s.link.device = .service ∧ s.ranker.newest.isSome = true ∧ s.ranker.timer ≠ .idle)
    ∧ (s.ranker.stage = .constructing →
        s.ranker.cause = none ∧ s.ranker.timer = .running ∧ s.ranker.nextSlot < Config.slotCount)
    ∧ (s.ranker.stage = .placing →
        placerInPass s.placers.dl s.notices.assemblers.dl
          ∧ placerInPass s.placers.ul s.notices.assemblers.ul
          ∧ ¬(s.placers.dl.hasEnded = true ∧ s.placers.ul.hasEnded = true))
    ∧ (s.ranker.stage ≠ .placing →
        s.placers.dl.stage ≠ .running ∧ s.placers.ul.stage ≠ .running)
    ∧ (s.link.decoding.waits = true →
        s.ranker.stage = .placing ∧ s.ranker.cause.isSome = true)
    ∧ (s.ranker.cause = some .deadline → s.ranker.timer = .expired)
    ∧ (s.link.decoding ≠ .idle → s.link.accepted ≠ [])
    ∧ (s.link.restart ≠ .none → s.ranker.stage = .idle ∧ s.link.decoding = .idle)

/-! ### The grant section (R139, R140) -/

/-- Outside a held reset, every WAITING entry of the grant section is of the current pass index, and in
placement both assemblers serve that pass. The section never holds more than the 98 entries of R140: while a
pass is under construction at most the one entry of an earlier pass; in placement that one and the chunks
queued so far, and the chunks of a direction with the records still pending are no more than its grants. -/
def State.GrantInv (s : State) : Prop :=
  (s.link.resetHeld = false →
      ∀ e ∈ s.notices.grants, e.mark = .waiting → e.passIndex = s.ranker.passIndex)
    ∧ (s.ranker.stage = .placing →
        s.notices.assemblers.dl.passIndex = s.ranker.passIndex
          ∧ s.notices.assemblers.ul.passIndex = s.ranker.passIndex)
    ∧ s.notices.grants.length ≤ 98
    ∧ (s.ranker.stage = .constructing → s.notices.grants.length ≤ 1)
    ∧ (s.ranker.stage = .placing →
        s.notices.grants.length ≤ 1 + s.notices.assemblers.dl.seq + s.notices.assemblers.ul.seq
          ∧ ∀ d, (s.notices.assemblers.get d).seq + (s.notices.assemblers.get d).pending.length
              ≤ (s.placers.get d).grants)

/-! ### Placement (R119, R121, R123) -/

/-- A Placer of a pass: the fill pointer stands on the line, the pool is what the line still holds, and the
tiles granted, the guard tiles and the pool make up the pass's tiles; every grant holds a tile. -/
def Placer.OnLine (p : Placer) : Prop :=
  (p.carriers = 1 ∨ p.carriers = 2)
    ∧ p.ptrCarrier < p.carriers
    ∧ p.ptrTile ≤ Config.carrierTiles
    ∧ (p.ptrCarrier = 0 → p.carriers = 2 → p.ptrTile < Config.carrierTiles)
    ∧ p.pool = (Config.carrierTiles - p.ptrTile)
        + (if p.ptrCarrier = 0 ∧ p.carriers = 2 then Config.carrierTiles else 0)
    ∧ p.tiles + p.guards + p.pool = Config.carrierTiles * p.carriers
    ∧ p.grants ≤ p.tiles

/-- A candidate whose payload and caps lie in their ranges, and which wants a tile (R39, R16, R87). -/
def Candidate.InRange (c : Candidate) : Prop :=
  (1 ≤ c.r ∧ c.r ≤ 255) ∧ (1 ≤ c.maxTiles ∧ c.maxTiles ≤ 48) ∧ (c.kind = .data → 1 ≤ c.backlog)

/-- Placement: the energy table is acceptable and the segment is one of the five; every candidate is in its
ranges; in placement both Placers stand on their lines, the DL Placer has taken no guard, and the downlink
budget of the allowance is what has been spent and what remains. -/
def State.PlacementInv (s : State) : Prop :=
  s.energy.table.valid = true
    ∧ (1 ≤ s.energy.segment ∧ s.energy.segment ≤ 5)
    ∧ (∀ d, (∀ c ∈ s.ranker.lists.get d, c.InRange) ∧ ∀ c ∈ (s.placers.get d).list, c.InRange)
    ∧ (s.ranker.stage = .placing →
        s.placers.dl.OnLine ∧ s.placers.ul.OnLine ∧ s.placers.dl.guards = 0
          ∧ s.dlSpent + s.dlBudget = s.ranker.allowance.budget)

/-! ### Records (R2, R21, R46, R47, R80) -/

/-- A track within its ranges (R21). -/
def Track.InRange (t : Track) : Prop :=
  t.f ≤ 2032 ∧ t.l ≤ 2032 ∧ t.debounce ≤ 15 ∧ t.fadeSamples ≤ 255 ∧ t.settle ≤ 15
    ∧ (-640 ≤ t.offset ∧ t.offset ≤ 160) ∧ t.poor ≤ 63 ∧ (∀ a, t.aRef = some a → a ≤ 2032)

/-- A demand group within its ranges: a written history entry holds 1..48 tiles and at most 12,240 served
bytes (R46, R47). -/
def Demand.InRange (g : Demand) : Prop :=
  g.backlog ≤ 1048575
    ∧ ∀ i : Fin 4, g.ring[i].written = true →
        1 ≤ g.ring[i].tiles ∧ g.ring[i].tiles ≤ 48 ∧ g.ring[i].served ≤ 12240

/-- A service group within its ranges (R80). -/
def Service.InRange (v : Service) : Prop :=
  v.avg ≤ 1048575 ∧ (-524280 ≤ v.credit ∧ v.credit ≤ 524280) ∧ v.starve ≤ 255 ∧ v.shortfall ≤ 255

/-- A record within its ranges (R2). -/
def Subscriber.InRange (u : Subscriber) : Prop :=
  (1 ≤ u.dlCost ∧ u.dlCost ≤ 4095)
    ∧ u.ulCap ≤ 48
    ∧ u.timing ≤ 1000
    ∧ (∀ a, u.anchor = some a → a.slot ≤ 95)
    ∧ u.anchorWeight ≤ 16
    ∧ ∀ d, (u.tracks.get d).InRange ∧ (u.demand.get d).InRange ∧ (u.service.get d).InRange

/-- Every record of the table is within its ranges. -/
def State.RecordInv (s : State) : Prop :=
  ∀ n u, (s.slot n).sub = some u → u.InRange

/-! ### Tables and setups (R16, R41, R43, R63, R106) -/

/-- A profile that CLASS_PROFILE would accept (R16). -/
def Profile.valid (p : Profile) : Bool :=
  decide (1 ≤ p.weight ∧ p.weight ≤ 15 ∧ p.rate.dl ≤ 65535 ∧ p.rate.ul ≤ 65535
    ∧ 1 ≤ p.maxTiles.dl ∧ p.maxTiles.dl ≤ 48 ∧ 1 ≤ p.maxTiles.ul ∧ p.maxTiles.ul ≤ 48
    ∧ 1 ≤ p.minTiles ∧ p.minTiles ≤ 8 ∧ p.poll ≤ 255 ∧ p.defer ≤ 4)

/-- Every table and setup, and the copies of the pass, are ones their requests would accept; a rate step's r
comes from one byte. -/
def State.TablesInv (s : State) : Prop :=
  rateTableValid s.rateTable = true
    ∧ (∀ x ∈ s.rateTable.toList, x.r ≤ 255)
    ∧ s.trackSetup.valid = true
    ∧ s.energy.table.valid = true
    ∧ s.ranker.setup.valid = true
    ∧ s.ranker.setupCopy.valid = true
    ∧ (∀ c, (s.profile c).valid = true)
    ∧ (∀ c, (s.profileCopy c).valid = true)

/-! ### Energy (R62, R72) -/

/-- The Energy Budget Controller within its ranges, its table acceptable. -/
def State.EnergyInv (s : State) : Prop :=
  s.energy.table.valid = true
    ∧ (1 ≤ s.energy.segment ∧ s.energy.segment ≤ 5)
    ∧ s.energy.active ≤ 65535
    ∧ s.energy.age ≤ Config.maxReadingAge
    ∧ (∀ x, s.energy.reading = some x → x ≤ 255)

/-! ### Monitor Unit (R145, R154, R156) -/

/-- The bounded stores of the Monitor Unit within their capacities, and PASSES one behind the pass index
while a pass is in flight, equal to it otherwise (R145). The count of passes is not spoken of while the part
is held in reset. -/
def State.MonitorInv (s : State) : Prop :=
  s.monitor.records.length ≤ Config.captureCapacity
    ∧ s.monitor.trace.length ≤ Config.traceCapacity
    ∧ (s.link.resetHeld = false →
        s.ranker.passIndex
          = s.monitor.passes + (if s.ranker.stage = .idle then 0#32 else 1#32))

/-- The inbound buffer within its capacity (R168). -/
def State.InboundInv (s : State) : Prop := s.link.occupied ≤ Config.inboundBytes

end Sys2Proof.Machine
end

