-- ==== Sys2Proof/Certificates/Slice0/Obligations.lean ====
section
/-! DEFINITION. The statements handed to the provers. Each is a Prop about the model; none is proved here. -/

section

open Sys2Proof Sys2Proof.Machine

/-! ### The queue of commands -/

/-- A step with command `c` at the front of the queue is `c` run on the state with the queue's rest. -/
def Obligations.StepRunsFrontCommand : Prop :=
  ∀ (c : Instr) (cs : List Instr) (s : State),
    step (s.withPending (c :: cs)) = exec c (s.withPending cs)

/-- Every command answers a next state, in every state, and leaves the rest of the queue as it is. A command
whose step cannot occur leaves the state as it is (the model's choice, log 1): a request when no frame of its
kind may be taken up, because 16 answers wait, a decoding is under way, a RESTART waits for its reset, the part
is held in reset, or the oldest accepted frame is missing or of another kind (R169, R178, R179; a batch goes on
while its own decoding stands between two entries, and a MONITOR_SETUP frame is taken by one of its two
commands, log 25); CONSTRUCT_SLOT and PLACE_CANDIDATE outside their stages, or held in reset (R84, R111, R179);
and a line event that the receiver does not hear (R164, R179). -/
def Obligations.EveryCommandCompletes : Prop :=
  (∀ (c : Instr) (s : State), ∃ t, exec c s = .next t ∧ t.pending = s.pending)
  ∧ ∀ s : State,
      let forBuffer (f : Frame) : Prop := f.body.length = 13 ∧ num1 f.body 0 = 4
      (∀ r ∈ fixedRequests, (∀ f, s.TakesUp f → f.kind ≠ r.2.1) → exec r.1 s = .next s)
      ∧ ((∀ f, s.TakesUp f → f.kind = 0x20#8 → forBuffer f) → exec .monitorSetup s = .next s)
      ∧ ((∀ f, s.TakesUp f → f.kind = 0x20#8 → ¬forBuffer f) → exec .monitorSetupBuffer s = .next s)
      ∧ ((∀ f, s.TakesUp f → f.kind ∈ fixedRequests.map (·.2.1) ++ batchRequests.map (·.2.1)) →
          exec .unknownKindRequest s = .next s)
      ∧ (∀ r ∈ batchRequests, ∀ n,
          (∀ f, s.link.accepted.head? = some f → f.kind = r.2.1 →
            s.link.resetHeld = true ∨ s.link.restart ≠ .none ∨ 16 ≤ s.link.answers.length
              ∨ (s.link.decoding ≠ .idle ∧ ∀ p, s.link.decoding ≠ .batch p)) →
          exec (r.1 n) s = .next s)
      ∧ (s.ranker.stage ≠ .constructing ∨ s.link.resetHeld = true → exec .constructSlot s = .next s)
      ∧ (∀ d begun,
          s.ranker.stage ≠ .placing ∨ (s.placers.get d).stage ≠ .running ∨ s.link.resetHeld = true →
            exec (.placeCandidate d begun) s = .next s)
      ∧ (s.link.resetHeld = true →
          exec .frameIdleTimeout s = .next s ∧ exec .deadlineExpiry s = .next s
            ∧ exec .resetLineAssert s = .next s)
      ∧ (s.link.resetHeld = true ∨ s.link.rxAwaitIdle = true → exec .framingError s = .next s)

/-! ### Reception -/

/-- A good byte outside a frame (R165): the hunt for the sync pair C3 3C. While the receiver takes no byte
(held in reset, waiting for the line to be idle, a restart under way) the byte changes nothing. -/
def Obligations.ReceiverHunts : Prop :=
  ∀ (s : State) (b : Byte),
    (¬ s.Hears → exec (.receiveByte b) s = .next s)
    ∧ (s.Hears → s.link.rx = .hunt →
        exec (.receiveByte b) s
          = .next (s.putRx (if b = 0xC3#8 then .sync else .hunt)).arbitrate)
    ∧ (s.Hears → s.link.rx = .sync →
        exec (.receiveByte b) s
          = .next
              (s.putRx
                (if b = 0x3C#8 then .header [] else if b = 0xC3#8 then .sync else .hunt)).arbitrate)

/-- A good byte of a header or a body (R165, R166, R168): stored while the inbound buffer has room; the
fourth header byte judges the length, the last body byte leads to the CRC; without room the frame is
discarded and LINK_OVERRUN latched. -/
def Obligations.ReceiverStoresFrame : Prop :=
  ∀ (s : State) (b : Byte), s.Hears →
    (s.link.occupied < 4096 →
      (∀ got, s.link.rx = .header got → got.length < 3 →
        exec (.receiveByte b) s = .next (s.putRx (.header (got ++ [b]))).arbitrate)
      ∧ (∀ kind tag hi, s.link.rx = .header [kind, tag, hi] →
          exec (.receiveByte b) s
            = .next
                (if hi.toNat * 256 + b.toNat > 1020 then
                    ((s.putRx .hunt).latchDevice .linkFraming s.ranker.newest).arbitrate
                  else if hi.toNat * 256 + b.toNat = 0 then (s.putRx (.check kind tag [] none)).arbitrate
                  else (s.putRx (.body kind tag (hi.toNat * 256 + b.toNat) [])).arbitrate))
      ∧ (∀ kind tag len got, s.link.rx = .body kind tag len got →
          exec (.receiveByte b) s
            = .next
                (if got.length + 1 = len then (s.putRx (.check kind tag (got ++ [b]) none)).arbitrate
                  else (s.putRx (.body kind tag len (got ++ [b]))).arbitrate)))
    ∧ (4096 ≤ s.link.occupied →
        (∃ got, s.link.rx = .header got) ∨ (∃ kind tag len got, s.link.rx = .body kind tag len got) →
        exec (.receiveByte b) s
          = .next ((s.putRx .hunt).latchDevice .linkOverrun s.ranker.newest).arbitrate)

/-- The CRC bytes (R165, R167): when they agree with the CRC over kind, tag, length and body the frame joins
the tail of the accepted frames; otherwise it is discarded and LINK_CRC is latched. -/
def Obligations.ReceiverJudgesCrc : Prop :=
  ∀ (s : State) (b : Byte) (kind tag : Byte) (got : List Byte), s.Hears →
    (s.link.rx = .check kind tag got none →
      exec (.receiveByte b) s = .next (s.putRx (.check kind tag got (some b))).arbitrate)
    ∧ (∀ hi, s.link.rx = .check kind tag got (some hi) →
        exec (.receiveByte b) s
          = .next
              (if hi ++ b
                    = crc (kind :: tag :: BitVec.ofNat 8 (got.length / 256)
                        :: BitVec.ofNat 8 got.length :: got) then
                  State.arbitrate
                    { s with
                      link :=
                        { s.link with
                          rx := .hunt
                          accepted := s.link.accepted ++ [⟨kind, tag, got⟩] } }
                else ((s.putRx .hunt).latchDevice .linkCrc s.ranker.newest).arbitrate))

/-- FRAMING_ERROR, FRAME_IDLE_TIMEOUT and LINE_RETURN_TO_IDLE (R164, R166): inside a frame the first two
discard it and latch LINK_FRAMING; outside a frame the receiver hunts and nothing is latched. After a framing
error the receiver waits for the line to be idle. -/
def Obligations.LineFaultsDiscardTheFrame : Prop :=
  ∀ s : State, s.link.resetHeld = false →
    (s.link.restart = .none → s.link.rx.inFrame = true →
      (s.link.rxAwaitIdle = false →
        exec .framingError s
          = .next
              (State.arbitrate
                { (s.putRx .hunt).latchDevice .linkFraming s.ranker.newest with
                  link :=
                    { ((s.putRx .hunt).latchDevice .linkFraming s.ranker.newest).link with
                      rxAwaitIdle := true } }))
      ∧ exec .frameIdleTimeout s
          = .next ((s.putRx .hunt).latchDevice .linkFraming s.ranker.newest).arbitrate)
    ∧ (s.link.restart ≠ .none ∨ s.link.rx.inFrame = false →
        (s.link.rxAwaitIdle = false →
          exec .framingError s
            = .next
                (State.arbitrate
                  { s with link := { s.link with rx := .hunt, rxAwaitIdle := true } }))
        ∧ exec .frameIdleTimeout s = .next (s.putRx .hunt))
    ∧ exec .lineReturnToIdle s = .next { s with link := { s.link with rxAwaitIdle := false } }

/-! ### Alerts -/

/-- Latching a device alert (R181, R142): nothing when it is latched already; otherwise it joins the set, and
unless its kind is masked a notice with the frame given joins the general section, or is dropped by a full
section, which latches NOTICE_LOST. No other device alert is changed. -/
def Obligations.DeviceAlertLatches : Prop :=
  ∀ (s : State) (a : DeviceAlert) (frame : Option U16),
    (s.hasAlert a = true → s.latchDevice a frame = s)
    ∧ (s.hasAlert a = false →
        ∃ alerts general,
          s.latchDevice a frame
              = { s with
                  link := { s.link with alerts := alerts }
                  notices := { s.notices with general := general } }
            ∧ (∀ k, (s.latchDevice a frame).hasAlert k
                = (s.hasAlert k || k == a
                    || (k == .noticeLost && !s.masked (.device a)
                        && decide (24 ≤ s.notices.general.length))))
            ∧ general
                = if s.masked (.device a) = false ∧ s.notices.general.length < 24 then
                    s.notices.general
                      ++ [⟨.alert
                            { kind := .device a, handle := none, dir := none, frame := frame },
                          .waiting⟩]
                  else s.notices.general)

/-- Latching a member of a subscriber's alert set (R18, R181, R142): as for a device alert, its notice
carrying the handle, the direction and the newest frame. -/
def Obligations.SubscriberAlertLatches : Prop :=
  ∀ (s : State) (n : Nat) (u : Subscriber) (m : Member), (s.slot n).sub = some u →
    (u.hasMember m = true → s.latchMember n m = s)
    ∧ (u.hasMember m = false →
        ∃ slots alerts general v,
          s.latchMember n m
              = { s with
                  slots := slots
                  link := { s.link with alerts := alerts }
                  notices := { s.notices with general := general } }
            ∧ (s.latchMember n m).slot n = { s.slot n with sub := some { u with alerts := v } }
            ∧ (∀ k, k ≠ n → (s.latchMember n m).slot k = s.slot k)
            ∧ (∀ k, ({ u with alerts := v } : Subscriber).hasMember k = (u.hasMember k || k == m))
            ∧ (∀ k, (s.latchMember n m).hasAlert k
                = (s.hasAlert k
                    || (k == .noticeLost && !s.masked m.kind
                        && decide (24 ≤ s.notices.general.length))))
            ∧ general
                = if s.masked m.kind = false ∧ s.notices.general.length < 24 then
                    s.notices.general
                      ++ [⟨.alert
                            { kind := m.kind, handle := some ⟨n, (s.slot n).gen⟩, dir := m.dir,
                              frame := s.ranker.newest },
                          .waiting⟩]
                  else s.notices.general)

/-- The ALERT line (R183, R179): active exactly while an alert of an unmasked kind is latched, in the device
alert set or in any subscriber's, and the part is not held in reset. -/
def Obligations.AlertLineFollowsLatches : Prop :=
  ∀ s : State,
    s.alertLine = true ↔
      s.link.resetHeld = false
        ∧ ((∃ a, s.hasAlert a = true ∧ s.masked (.device a) = false)
          ∨ ∃ n u m, (s.slot n).sub = some u ∧ u.hasMember m = true ∧ s.masked m.kind = false)

/-! ### The outbound side -/

/-- The arbiter (R174, R133): on a free line it chooses the head of the answer queue, else the head of the
grant section if it is WAITING, else the head of the general section if it is WAITING, and marks a chosen
notice SENDING; a message being sent is not disturbed. -/
def Obligations.ArbiterChoosesBest : Prop :=
  ∀ s : State, s.link.resetHeld = false → s.link.restart ≠ .resetDue →
    (s.link.tx.isSome = true → s.arbitrate = s)
    ∧ (s.link.tx = none →
        (∀ a as, s.link.answers = a :: as →
          s.arbitrate = { s with link := { s.link with tx := some ⟨.answers, answerFrame a⟩ } })
        ∧ (s.link.answers = [] →
            (∀ n p es, s.notices.grants = ⟨n, .waiting, p⟩ :: es →
              s.arbitrate
                = { s with
                    link := { s.link with tx := some ⟨.grants, grantNoticeFrame n⟩ }
                    notices := { s.notices with grants := ⟨n, .sending, p⟩ :: es } })
            ∧ ((∀ e, s.notices.grants.head? = some e → e.mark = .sending) →
                (∀ n es, s.notices.general = ⟨n, .waiting⟩ :: es →
                  s.arbitrate
                    = { s with
                        link := { s.link with tx := some ⟨.general, generalNoticeFrame n⟩ }
                        notices := { s.notices with general := ⟨n, .sending⟩ :: es } })
                ∧ ((∀ e, s.notices.general.head? = some e → e.mark = .sending) →
                    s.arbitrate = s))))

/-- MESSAGE_SENT (R133, R173, R178): the message leaves the queue or section it came from and the arbiter
chooses again; after the answer of an accepted RESTART the reset is due instead. That on a free line the
command changes nothing is the model's choice (log 1), and that no choice is made once a restart's reset is
due is too (log 14). -/
def Obligations.MessageSentLeavesItsSource : Prop :=
  ∀ s : State,
    (s.link.tx = none → exec .messageSent s = .next s)
    ∧ (∀ bytes, s.link.tx = some ⟨.answers, bytes⟩ →
        exec .messageSent s
          = .next
              (if s.link.restart = .answerQueued ∧ s.link.answers.length = 1 then
                  { s with link := { s.link with tx := none, answers := [], restart := .resetDue } }
                else
                  State.arbitrate
                    { s with link := { s.link with tx := none, answers := s.link.answers.tail } }))
    ∧ (∀ bytes, s.link.tx = some ⟨.grants, bytes⟩ →
        exec .messageSent s
          = .next
              (State.arbitrate
                { s with
                  link := { s.link with tx := none }
                  notices := { s.notices with grants := s.notices.grants.tail } }))
    ∧ (∀ bytes, s.link.tx = some ⟨.general, bytes⟩ →
        exec .messageSent s
          = .next
              (State.arbitrate
                { s with
                  link := { s.link with tx := none }
                  notices := { s.notices with general := s.notices.general.tail } }))

/-! ### Requests turned away before their block (R170) -/

/-- R170 steps 1 and 2: a kind that names no request is answered UNKNOWN_KIND, and a request of fixed length
with a body of another length BAD_LENGTH; nothing is changed. -/
def Obligations.WrongKindOrLengthRefused : Prop :=
  ∀ (s : State) (f : Frame), s.TakesUp f →
    (f.kind ∉ fixedRequests.map (fun r => r.2.1) ++ batchRequests.map (fun r => r.2.1) →
      s.Refuses .unknownKindRequest f .unknownKind)
    ∧ ∀ r ∈ fixedRequests, f.kind = r.2.1 → f.body.length ≠ r.2.2 → s.Refuses r.1 f .badLength

/-- The shape of a batch (R170 step 2, R22, R50, R55): an empty body is BAD_LENGTH, a count of 0 or above 32
BAD_FIELD, a length that is not that of the count BAD_LENGTH, and a direction code, or an outcome result
code, above 1 in any entry BAD_FIELD; no entry is applied. -/
def Obligations.MisshapenBatchRefused : Prop :=
  ∀ r ∈ batchRequests, ∀ (n : Nat) (s : State) (f : Frame), s.TakesUp f → f.kind = r.2.1 →
    (f.body = [] → s.Refuses (r.1 n) f .badLength)
    ∧ ∀ count rest, f.body = count :: rest →
        (count.toNat = 0 ∨ 32 < count.toNat → s.Refuses (r.1 n) f .badField)
        ∧ (1 ≤ count.toNat → count.toNat ≤ 32 →
            (rest.length ≠ r.2.2 * count.toNat → s.Refuses (r.1 n) f .badLength)
            ∧ (rest.length = r.2.2 * count.toNat →
                (∃ i < count.toNat,
                  1 < num1 rest (r.2.2 * i + 2)
                    ∨ (r.2.1 = 0x1B#8 ∧ 1 < num1 rest (r.2.2 * i + 5))) →
                s.Refuses (r.1 n) f .badField))

/-- R170 step 3: the requests that the device state, a pass in flight or a latched RESTARTED turns away. -/
def Obligations.DeviceStateRefusals : Prop :=
  ∀ (s : State) (f : Frame), s.TakesUp f →
    (f.kind = 0x02#8 → f.body = [] → s.ranker.stage ≠ .idle → s.Refuses .restart f .busy)
    ∧ (f.kind = 0x03#8 → f.body = [] → s.link.device = .service ∨ s.hasAlert .restarted = true →
        s.Refuses .serviceOn f .wrongState)
    ∧ (f.kind = 0x04#8 → f.body = [] → s.link.device = .config → s.Refuses .serviceOff f .wrongState)
    ∧ (f.kind = 0x08#8 → f.body.length = 24 → s.link.device = .service →
        s.Refuses .rateTable f .wrongState)
    ∧ (f.kind = 0x18#8 → f.body.length = 2 → s.link.device = .config →
        s.Refuses .frameMark f .wrongState)

/-! ### The Link Interface's requests -/

/-- STATUS is answered OK and changes nothing (R170), and the summary every answer carries shows the state as
R172 and R76 say. -/
def Obligations.StatusShowsSummary : Prop :=
  (∀ (s : State) (f : Frame), s.TakesUp f → f.kind = 0x01#8 → f.body = [] →
    s.AnswersWith .status f .ok .empty s)
  ∧ ∀ s : State,
      s.summary.device = s.link.device
      ∧ (s.summary.inFlight = true ↔ s.ranker.stage ≠ .idle)
      ∧ s.summary.newest = s.ranker.newest
      ∧ s.summary.segment = s.energy.segment
      ∧ (∀ c, s.energy.table.carriers[s.energy.segment - 1]? = some c → s.summary.carriers = c)
      ∧ s.summary.active = s.energy.active
      ∧ s.summary.live = (List.range 96).countP (fun n => (s.slot n).sub.isSome)
      ∧ s.summary.alerts = s.link.alerts
      ∧ (s.summary.subscriberAlert = true ↔ ∃ n u, (s.slot n).sub = some u ∧ u.alerts ≠ 0#7)

/-- ALERT_MASK (R182): a bit beyond the fourteen kinds is BAD_FIELD; otherwise the whole mask is replaced, and
nothing else changes. ALERT_CLEAR (R184): the checks in their order, and the clearing of the chosen kinds,
everywhere without a handle and from the one subscriber's set with it. -/
def Obligations.AlertMaskAndClear : Prop :=
  (∀ (s : State) (f : Frame), s.TakesUp f → f.kind = 0x06#8 → f.body.length = 2 →
     (2 ^ 14 ≤ num2 f.body 0 → s.Refuses .alertMask f .badField)
     ∧ (num2 f.body 0 < 2 ^ 14 →
         s.AnswersWith .alertMask f .ok .empty
           { s with link := { s.link with mask := BitVec.ofNat 14 (num2 f.body 0) } }))
  ∧ (∀ (s : State) (f : Frame), s.TakesUp f → f.kind = 0x05#8 → f.body.length = 5 →
     let bits := num2 f.body 0
     let h := handleAtOffset f.body 3
     (2 ^ 14 ≤ bits ∨ 1 < num1 f.body 2 → s.Refuses .alertClear f .badField)
     ∧ (bits < 2 ^ 14 → num1 f.body 2 = 0 →
         ∃ s', s.AnswersWith .alertClear f .ok .empty s'
           ∧ s' = { s with slots := s'.slots, link := { s.link with alerts := s'.link.alerts } }
           ∧ (∀ a, s'.hasAlert a = (s.hasAlert a && !bits.testBit a.code))
           ∧ (∀ n, (s'.slot n).gen = (s.slot n).gen)
           ∧ (∀ n, (s.slot n).sub = none → (s'.slot n).sub = none)
           ∧ ∀ n u, (s.slot n).sub = some u →
               ∃ v, (s'.slot n).sub = some { u with alerts := v }
                 ∧ ∀ m, ({ u with alerts := v } : Subscriber).hasMember m
                     = (u.hasMember m && !bits.testBit m.kind.code))
     ∧ (bits < 2 ^ 14 → num1 f.body 2 = 1 →
         (95 < h.slot ∨ bits % 2 ^ 10 ≠ 0 → s.Refuses .alertClear f .badField)
         ∧ (h.slot ≤ 95 → bits % 2 ^ 10 = 0 →
             (s.lookup h = none → s.Refuses .alertClear f .unknownHandle)
             ∧ ∀ u, s.lookup h = some u →
                 ∃ s' v, s.AnswersWith .alertClear f .ok .empty s'
                   ∧ s' = { s with slots := s'.slots }
                   ∧ s'.slot h.slot = { s.slot h.slot with sub := some { u with alerts := v } }
                   ∧ (∀ n, n ≠ h.slot → s'.slot n = s.slot n)
                   ∧ ∀ m, ({ u with alerts := v } : Subscriber).hasMember m
                       = (u.hasMember m && !bits.testBit m.kind.code))))

/-- SERVICE_ON in CONFIG with RESTARTED not latched (R176, R60): the device enters SERVICE, the newest frame
becomes absent, every history entry becomes unwritten and every stamp absent; the backlogs and all else
stand. That an entry made unwritten keeps its other fields is the model's choice (log 10). -/
def Obligations.ServiceOnEntersService : Prop :=
  ∀ (s : State) (f : Frame), s.TakesUp f → f.kind = 0x03#8 → f.body = [] →
    s.link.device = .config → s.hasAlert .restarted = false →
    let forget (g : Demand) : Demand :=
      { g with stamp := none, ring := g.ring.map fun e => { e with written := false } }
    ∃ s', s.AnswersWith .serviceOn f .ok .empty s'
      ∧ s' = { s with
          slots := s'.slots
          link := { s.link with device := .service }
          ranker := { s.ranker with newest := none } }
      ∧ ∀ n, s'.slot n
          = { s.slot n with
              sub := (s.slot n).sub.map fun u =>
                { u with demand := ⟨forget u.demand.dl, forget u.demand.ul⟩ } }

/-- SERVICE_OFF in SERVICE (R177, R100, R98): with no pass in flight the device enters CONFIG at once; with a
pass in placement the cause becomes STOPPED, unless one stands, and the answer waits for the completion; in
construction the pass is cut off and completed (`State.cutConstruction`, whose parts PlacementBegins,
ChunksFollowRecords and CompletionKeepsAccounts state), and from the completed state the device enters CONFIG
and the answer is built, in the same step. A SERVICE_OFF that has waited enters CONFIG and is answered OK
likewise. That completion and answer fall in one step is deduced (log 20); that the candidate lists stand
afterwards is the model's choice (log 24). -/
def Obligations.ServiceOffEntersConfig : Prop :=
  (∀ (s : State) (f : Frame), s.TakesUp f → s.PassInv → f.kind = 0x04#8 → f.body = [] →
    s.link.device = .service →
    (s.ranker.stage = .idle →
      s.AnswersWith .serviceOff f .ok .empty { s with link := { s.link with device := .config } })
    ∧ (s.ranker.stage = .placing →
        exec .serviceOff s
          = .next
              { s with
                link := { s.link with decoding := .serviceOff }
                ranker := { s.ranker with cause := some (s.ranker.cause.getD .stopped) } })
    ∧ (s.ranker.stage = .constructing →
        let x := State.cutConstruction
          { s with link := { s.link with decoding := .serviceOff } } .stopped
        ∃ t m, exec .serviceOff s = .next t ∧ s.Answered t f .ok .empty
          ∧ x.AnsweredAs t f .ok .empty { x with link := { x.link with device := .config } }
          ∧ t.link.device = .config ∧ t.ranker.stage = .idle ∧ t.ranker.cause = none
          ∧ t.ranker.timer = .idle ∧ t.ranker.newest = s.ranker.newest
          ∧ t.ranker.passIndex = s.ranker.passIndex
          ∧ t.monitor.passes = s.monitor.passes + 1#32
          ∧ t.offLine.notices.grants
              = s.offLine.notices.grants ++ [⟨.mapEnd m, .waiting, s.ranker.passIndex⟩]
          ∧ m.cause = .stopped ∧ s.ranker.newest = some m.frame
          ∧ m.figures.dl.grants = 0 ∧ m.figures.ul.grants = 0
          ∧ m.figures.dl.unreached = s.ranker.lists.dl.length
          ∧ m.figures.ul.unreached = s.ranker.lists.ul.length))
  ∧ ∀ (s : State) (f : Frame), s.link.decoding = .serviceOff → s.link.accepted.head? = some f →
      s.AnsweredAs s.resolveDeferred f .ok .empty { s with link := { s.link with device := .config } }

/-- RESTART with no pass in flight (R178): answered OK, and from then on the waiting frames are gone and
nothing more is decoded until the reset; every block is left as it stands. That the frame in reception is
gone too is deduced (log 14). -/
def Obligations.RestartAwaitsItsReset : Prop :=
  ∀ (s : State) (f : Frame), s.TakesUp f → f.kind = 0x02#8 → f.body = [] → s.ranker.stage = .idle →
    ∃ t, exec .restart s = .next t
      ∧ t.link.answers
          = s.link.answers ++ [⟨f.kind, f.tag, .ok, s.summary, .empty⟩]
      ∧ t.link.accepted = [] ∧ t.link.rx = .hunt ∧ t.link.restart = .answerQueued
      ∧ t.link.decoding = .idle
      ∧ t.inner
          = { s.inner with link := { s.inner.link with rx := .hunt, restart := .answerQueued } }
      ∧ (s.link.tx.isSome = true → t.link.tx = s.link.tx ∧ t.notices = s.notices)

/-! ### Tables and setups -/

/-- RATE_TABLE in CONFIG (R41): an r of 0, a threshold above 127, or r values or thresholds that do not
strictly increase are BAD_FIELD; otherwise the whole table is replaced and nothing else changes. -/
def Obligations.RateTableReplaced : Prop :=
  ∀ (s : State) (f : Frame), s.TakesUp f → f.kind = 0x08#8 → f.body.length = 24 →
    s.link.device = .config →
    let r (i : Nat) := num1 f.body (2 * i)
    let th (i : Nat) := num1 f.body (2 * i + 1)
    ((∀ i < 12, 1 ≤ r i ∧ th i ≤ 127) ∧ (∀ i < 11, r i < r (i + 1) ∧ th i < th (i + 1)) →
      s.AnswersWith .rateTable f .ok .empty
        { s with rateTable := Vector.ofFn fun i => ⟨r i.val, th i.val⟩ })
    ∧ (¬((∀ i < 12, 1 ≤ r i ∧ th i ≤ 127) ∧ (∀ i < 11, r i < r (i + 1) ∧ th i < th (i + 1))) →
        s.Refuses .rateTable f .badField)

/-- TRACK_SETUP (R43, R44): a setting outside its range, a bl not above bf or a T_exit not below T_enter is
BAD_FIELD; otherwise all eleven settings are replaced at once and no track changes. PASS_SETUP (R106, R107): a
setting outside its range, the lost limit not above the stale limit among them, is BAD_FIELD; otherwise the
current pass setup is replaced and the pass in flight keeps its copy. -/
def Obligations.SetupsReplaced : Prop :=
  (∀ (s : State) (f : Frame), s.TakesUp f → f.kind = 0x09#8 → f.body.length = 11 →
     let v (i : Nat) := num1 f.body i
     let ok := (1 ≤ v 0 ∧ v 0 ≤ 6) ∧ (3 ≤ v 1 ∧ v 1 ≤ 10) ∧ v 0 < v 1 ∧ v 2 ≤ 15
       ∧ (1 ≤ v 3 ∧ v 3 ≤ 40) ∧ v 4 < v 3 ∧ (1 ≤ v 5 ∧ v 5 ≤ 15) ∧ (1 ≤ v 6 ∧ v 6 ≤ 15)
       ∧ 1 ≤ v 8 ∧ 1 ≤ v 9 ∧ (1 ≤ v 10 ∧ v 10 ≤ 63)
     (ok →
       s.AnswersWith .trackSetup f .ok .empty
         { s with trackSetup := ⟨v 0, v 1, v 2, v 3, v 4, v 5, v 6, v 7, v 8, v 9, v 10⟩ })
     ∧ (¬ok → s.Refuses .trackSetup f .badField))
  ∧ (∀ (s : State) (f : Frame), s.TakesUp f → f.kind = 0x0C#8 → f.body.length = 14 →
     let v (i : Nat) := num1 f.body i
     let w (i : Nat) := num2 f.body i
     let ok := (100 ≤ w 0 ∧ w 0 ≤ 5000) ∧ (2 ≤ v 2 ∧ v 2 ≤ 8) ∧ (1 ≤ v 3 ∧ v 3 ≤ 16) ∧ w 4 ≤ 1000
       ∧ 1 ≤ v 6 ∧ v 6 < w 7 ∧ v 9 ≤ 40 ∧ 1 ≤ w 10 ∧ 1 ≤ v 12 ∧ 1 ≤ v 13
     (ok →
       s.AnswersWith .passSetup f .ok .empty
         { s with
           ranker :=
             { s.ranker with
               setup := ⟨w 0, v 2, v 3, w 4, v 6, w 7, v 9, w 10, v 12, v 13⟩ } })
     ∧ (¬ok → s.Refuses .passSetup f .badField))

/-- ENERGY_TABLE (R63, R64): boundaries 1..254 that strictly decrease, a hysteresis of 31 at most, budgets
and carrier counts that nowhere increase, carrier counts of 1 or 2, a slew step of 1 at least and flags of 0
or 1 are accepted and replace the table, changing nothing else; anything else is BAD_FIELD. -/
def Obligations.EnergyTableReplaced : Prop :=
  ∀ (s : State) (f : Frame), s.TakesUp f → f.kind = 0x0B#8 → f.body.length = 26 →
    let v (i : Nat) := num1 f.body i
    let budget (i : Nat) := num2 f.body (5 + 2 * i)
    let ok := (∀ i < 4, 1 ≤ v i ∧ v i ≤ 254) ∧ (∀ i < 3, v (i + 1) < v i) ∧ v 4 ≤ 31
      ∧ (∀ i < 4, budget (i + 1) ≤ budget i) ∧ (∀ i < 5, v (15 + i) = 1 ∨ v (15 + i) = 2)
      ∧ (∀ i < 4, v (15 + i + 1) ≤ v (15 + i)) ∧ 1 ≤ num2 f.body 20 ∧ ∀ i < 4, v (22 + i) ≤ 1
    (ok →
      s.AnswersWith .energyTable f .ok .empty
        { s with
          energy :=
            { s.energy with
              table :=
                { bounds := #v[v 0, v 1, v 2, v 3]
                  hysteresis := v 4
                  budgets := #v[budget 0, budget 1, budget 2, budget 3, budget 4]
                  carriers := #v[v 15, v 16, v 17, v 18, v 19]
                  slew := num2 f.body 20
                  riseJump := decide (v 22 = 1)
                  fallJump := decide (v 23 = 1)
                  graded := decide (v 24 = 1)
                  lift := decide (v 25 = 1) } } })
    ∧ (¬ok → s.Refuses .energyTable f .badField)

/-- CLASS_PROFILE (R16, R17): a class index above 7, an unknown kind, or a weight, a max tiles, a min tiles or
a defer shift outside its range is BAD_FIELD; otherwise the profile of that class is replaced whole, and the
other seven and the copy of the pass in flight stand. -/
def Obligations.ClassProfileReplaced : Prop :=
  ∀ (s : State) (f : Frame), s.TakesUp f → f.kind = 0x0A#8 → f.body.length = 12 →
    let v (i : Nat) := num1 f.body i
    let ok := v 0 ≤ 7 ∧ v 1 ≤ 2 ∧ (1 ≤ v 2 ∧ v 2 ≤ 15) ∧ (1 ≤ v 7 ∧ v 7 ≤ 48) ∧ (1 ≤ v 8 ∧ v 8 ≤ 48)
      ∧ (1 ≤ v 9 ∧ v 9 ≤ 8) ∧ v 11 ≤ 4
    (ok →
      ∃ s', s.AnswersWith .classProfile f .ok .empty s'
        ∧ s' = { s with profiles := s'.profiles }
        ∧ ∀ c : Fin 8, s'.profile c
            = if c.val = v 0 then
                { kind := if v 1 = 0 then .emergency else if v 1 = 1 then .guaranteed else .bestEffort
                  weight := v 2
                  rate := ⟨num2 f.body 3, num2 f.body 5⟩
                  maxTiles := ⟨v 7, v 8⟩
                  minTiles := v 9
                  poll := v 10
                  defer := v 11 }
              else s.profile c)
    ∧ (¬ok → s.Refuses .classProfile f .badField)

/-! ### The Subscriber Table's requests -/

/-- ADMIT (R6, R7, R8, R4): the checks in their order; accepted, the lowest FREE slot takes the next
generation and a whole new record, its values clamped, and the answer carries the new handle. -/
def Obligations.AdmitBuildsRecord : Prop :=
  ∀ (s : State) (f : Frame), s.TakesUp f → f.kind = 0x10#8 → f.body.length = 12 →
    let v (i : Nat) := num1 f.body i
    let anchor := handleAtOffset f.body 7
    let ok := v 0 ≤ 7 ∧ v 9 ≤ 16 ∧ v 6 ≤ 1 ∧ (v 6 = 1 → anchor.slot ≤ 95)
    let anchored := v 6 = 1 → s.isLive anchor = true
    let track (q : Nat) : Track :=
      { f := min q 127 * 16, l := min q 127 * 16, fade := .steady, debounce := 0, fadeSamples := 0,
        settle := s.trackSetup.settle, offset := 0, poor := 0, lastSample := s.ranker.passIndex,
        aRef := none }
    let service : Service := { avg := 0, credit := 0, starve := 0, shortfall := 0, lastGrant := none }
    (¬ok → s.Refuses .admission f .badField)
    ∧ (ok → ¬anchored → s.Refuses .admission f .unknownHandle)
    ∧ (ok → anchored → (∀ n < 96, (s.slot n).sub ≠ none) → s.Refuses .admission f .noSlot)
    ∧ (ok → anchored → ∀ n < 96, (s.slot n).sub = none → (∀ k < n, (s.slot k).sub ≠ none) →
        ∃ s' u, s.AnswersWith .admission f .ok (.admitted ⟨n, (s.slot n).gen + 1#8⟩) s'
          ∧ s' = { s with slots := s'.slots }
          ∧ s'.slot n = ⟨(s.slot n).gen + 1#8, some u⟩
          ∧ (∀ k, k ≠ n → s'.slot k = s.slot k)
          ∧ u.life = .active ∧ u.cls.val = v 0
          ∧ u.dlCost = max 1 (min (num2 f.body 1) 4095) ∧ u.ulCap = min (v 3) 48
          ∧ u.timing = min (num2 f.body 4) 1000
          ∧ u.anchor = (if v 6 = 1 then some anchor else none) ∧ u.anchorWeight = v 9
          ∧ u.admitIndex = s.ranker.passIndex ∧ u.alerts = 0#7
          ∧ u.tracks = ⟨track (v 10), track (v 11)⟩
          ∧ (u.demand.dl.backlog = 0 ∧ u.demand.ul.backlog = 0)
          ∧ (u.demand.dl.stamp = none ∧ u.demand.ul.stamp = none)
          ∧ (∀ i : Fin 4, u.demand.dl.ring[i].written = false ∧ u.demand.ul.ring[i].written = false)
          ∧ u.service = ⟨service, service⟩)

/-- RELEASE, SUSPEND and RESUME (R3, R9, R10, R11): a slot above 95 is BAD_FIELD, a handle that is not live
UNKNOWN_HANDLE; RELEASE frees the slot and keeps its generation, SUSPEND changes the lifecycle state of an
ACTIVE or LOST subscriber alone, RESUME makes a SUSPENDED one ACTIVE with both credits 0; in the other states
SUSPEND and RESUME are WRONG_STATE. -/
def Obligations.LifecycleRequests : Prop :=
  ∀ (s : State) (f : Frame), s.TakesUp f → f.body.length = 2 →
    let h := handleAtOffset f.body 0
    let becomes (c : Instr) (x : Option Subscriber) : Prop :=
      ∃ s', s.AnswersWith c f .ok .empty s'
        ∧ s' = { s with slots := s'.slots }
        ∧ s'.slot h.slot = { s.slot h.slot with sub := x }
        ∧ ∀ n, n ≠ h.slot → s'.slot n = s.slot n
    (∀ p ∈ [(Instr.release, 0x11#8), (Instr.suspend, 0x12#8), (Instr.resume, 0x13#8)],
      f.kind = p.2 →
        (95 < h.slot → s.Refuses p.1 f .badField)
        ∧ (h.slot ≤ 95 → s.lookup h = none → s.Refuses p.1 f .unknownHandle))
    ∧ ∀ u, s.lookup h = some u →
        (f.kind = 0x11#8 → becomes .release none)
        ∧ (f.kind = 0x12#8 →
            (u.life = .suspended → s.Refuses .suspend f .wrongState)
            ∧ (u.life ≠ .suspended → becomes .suspend (some { u with life := .suspended })))
        ∧ (f.kind = 0x13#8 →
            (u.life ≠ .suspended → s.Refuses .resume f .wrongState)
            ∧ (u.life = .suspended →
                becomes .resume
                  (some
                    { u with
                      life := .active
                      service :=
                        ⟨{ u.service.dl with credit := 0 }, { u.service.ul with credit := 0 }⟩ })))

/-- LINK_UPDATE (R13, R14): the checks in their order; accepted, every present field is written with its
clamp, setting or clearing the anchor makes both anchor references absent, and nothing else changes. -/
def Obligations.LinkUpdateWritesPresentFields : Prop :=
  ∀ (s : State) (f : Frame), s.TakesUp f → f.kind = 0x14#8 → f.body.length = 13 →
    let v (i : Nat) := num1 f.body i
    let h := handleAtOffset f.body 0
    let anchor := handleAtOffset f.body 10
    let has (i : Nat) := (v 2).testBit i
    let sets := has 4 = true ∧ v 9 = 1
    let ok := v 2 < 64 ∧ (has 0 = true → v 3 ≤ 7) ∧ (has 5 = true → v 12 ≤ 16)
      ∧ (has 4 = true → (v 9 = 1 ∧ anchor.slot ≤ 95) ∨ v 9 = 2)
    let drop (t : Track) : Track := if has 4 = true then { t with aRef := none } else t
    (95 < h.slot → s.Refuses .linkUpdate f .badField)
    ∧ (h.slot ≤ 95 → s.lookup h = none → s.Refuses .linkUpdate f .unknownHandle)
    ∧ ∀ u, s.lookup h = some u →
        (¬ok → s.Refuses .linkUpdate f .badField)
        ∧ (ok → sets → anchor.slot = h.slot → s.Refuses .linkUpdate f .badField)
        ∧ (ok → sets → anchor.slot ≠ h.slot → s.isLive anchor = false →
            s.Refuses .linkUpdate f .unknownHandle)
        ∧ (ok → (sets → anchor.slot ≠ h.slot ∧ s.isLive anchor = true) →
            ∃ s' u', s.AnswersWith .linkUpdate f .ok .empty s'
              ∧ s' = { s with slots := s'.slots }
              ∧ s'.slot h.slot = { s.slot h.slot with sub := some u' }
              ∧ (∀ n, n ≠ h.slot → s'.slot n = s.slot n)
              ∧ u' = { u with
                  cls := u'.cls
                  dlCost := if has 1 = true then max 1 (min (num2 f.body 4) 4095) else u.dlCost
                  ulCap := if has 2 = true then min (v 6) 48 else u.ulCap
                  timing := if has 3 = true then min (num2 f.body 7) 1000 else u.timing
                  anchor :=
                    if has 4 = true then (if v 9 = 1 then some anchor else none) else u.anchor
                  anchorWeight := if has 5 = true then v 12 else u.anchorWeight
                  tracks := ⟨drop u.tracks.dl, drop u.tracks.ul⟩ }
              ∧ u'.cls.val = if has 0 = true then v 3 else u.cls.val)

/-- SUBSCRIBER_READ (R19, R3): an unknown form and a slot above 95 are BAD_FIELD; the handle form answers
UNKNOWN_HANDLE for a handle that is not live; a FREE slot is read as its generation alone; otherwise the whole
record is returned with its sample ages, effective qualities and rate steps. Nothing is changed. -/
def Obligations.SubscriberReadReturnsRecord : Prop :=
  ∀ (s : State) (f : Frame), s.TakesUp f → f.kind = 0x15#8 → f.body.length = 3 →
    let h := handleAtOffset f.body 1
    let form := num1 f.body 0
    let record (g : Handle) (u : Subscriber) : Prop :=
      ∃ r, s.AnswersWith .subscriberRead f .ok (.record r) s
        ∧ r.handle = g ∧ r.sub = u
        ∧ (r.anchorLive = true ↔ ∃ a, u.anchor = some a ∧ s.isLive a = true)
        ∧ ∀ d, r.age.get d = (s.ranker.passIndex - (u.tracks.get d).lastSample).toNat
            ∧ r.quality.get d = s.quality u d s.ranker.setup.staleLimit s.ranker.setup.stalePenalty
            ∧ r.rateStep.get d = stepFor s.rateTable (s.profile u.cls).kind (r.quality.get d)
    (1 < form ∨ 95 < h.slot → s.Refuses .subscriberRead f .badField)
    ∧ (form = 0 → h.slot ≤ 95 → s.lookup h = none → s.Refuses .subscriberRead f .unknownHandle)
    ∧ (form = 0 → ∀ u, s.lookup h = some u → record h u)
    ∧ (form = 1 → h.slot ≤ 95 →
        ((s.slot h.slot).sub = none →
          s.AnswersWith .subscriberRead f .ok (.freeSlot h.slot (s.slot h.slot).gen) s)
        ∧ ∀ u, (s.slot h.slot).sub = some u → record ⟨h.slot, (s.slot h.slot).gen⟩ u)

/-- Effective quality and rate step (R35 to R39): a fresh track has F + O; a stale one takes the anchor path
when its anchor is live and fresh and its anchor reference present, and the penalty otherwise; the result is
clamped to 0..2047. The rate step is the highest whose threshold in sixteenths is at most E, 0 when none is,
and at least 1 for an EMERGENCY class. -/
def Obligations.EffectiveQualityAndRateStep : Prop :=
  (∀ (s : State) (u : Subscriber) (d : Direction) (limit penalty : Nat),
    let t := u.tracks.get d
    let age (x : Track) := (s.ranker.passIndex - x.lastSample).toNat
    let e (x : Int) : Nat := (max 0 (min x 2047)).toNat
    (age t ≤ limit → s.quality u d limit penalty = e (t.f + t.offset))
    ∧ (limit < age t →
        (∀ a ar ref, u.anchor = some ar → s.lookup ar = some a → age (a.tracks.get d) ≤ limit →
          t.aRef = some ref →
          s.quality u d limit penalty
            = e (t.f + t.offset
                + (((a.tracks.get d).f - (ref : Int)) * u.anchorWeight).tdiv 16))
        ∧ ((∀ a ar, u.anchor = some ar → s.lookup ar = some a →
              limit < age (a.tracks.get d) ∨ t.aRef = none) →
            s.quality u d limit penalty = e (t.f + t.offset - 16 * penalty))))
  ∧ ∀ (table : Vector RateStep 12) (kind : ClassKind) (e : Nat),
      stepOf table e ≤ 12
      ∧ (∀ i : Fin 12, table[i].threshold * 16 ≤ e → i.val + 1 ≤ stepOf table e)
      ∧ (stepOf table e ≠ 0 →
          ∃ i : Fin 12, stepOf table e = i.val + 1 ∧ table[i].threshold * 16 ≤ e)
      ∧ stepFor table kind e
          = if kind = .emergency ∧ stepOf table e = 0 then 1 else stepOf table e

/-! ### FRAME_MARK -/

/-- FRAME_MARK in SERVICE with no pass in flight (R81 to R83, R48, R139, R144): a frame equal to the newest is
DUPLICATE_FRAME, one not later OUT_OF_ORDER_FRAME; a later one, or any when none is newest, starts a pass. The
Ranker's fields, the retired history entries, the purged grant section and MAP_PURGED with its notice are as
those rules say, every other block stands, and the answer is OK with the summary of that state; after it, when
the frame is later by 2 or more, the Monitor Unit takes the FRAME_GAP event of the new frame. That a
retired entry keeps its other fields is the model's choice (log 10). -/
def Obligations.FrameMarkStartsPass : Prop :=
  ∀ (s : State) (f : Frame), s.TakesUp f → f.kind = 0x18#8 → f.body.length = 2 →
    s.link.device = .service →
    let F := frameAt f.body 0
    (s.ranker.newest = some F → s.Refuses .frameMark f .duplicateFrame)
    ∧ (∀ n, s.ranker.newest = some n → F ≠ n → 32768 ≤ (F - n).toNat →
        s.Refuses .frameMark f .outOfOrderFrame)
    ∧ ((∀ n, s.ranker.newest = some n → 1 ≤ (F - n).toNat ∧ (F - n).toNat ≤ 32767) →
        s.ranker.stage = .idle → ∃ t, exec .frameMark s = .next t ∧ s.PassStarts t f F)

/-- FRAME_MARK accepted with a pass in flight (R82, R98, R99): in placement the cause becomes PREEMPTED, unless
one stands, and the new pass waits for the completion; in construction the old pass is cut off and completed
(`State.cutConstruction`, whose parts PlacementBegins, ChunksFollowRecords and CompletionKeepsAccounts state),
every candidate unreached, and the new one starts from the completed state in the same step (log 20). A
FRAME_MARK that has waited starts its pass as one that meets no pass in flight. -/
def Obligations.FrameMarkPreemptsPass : Prop :=
  (∀ (s : State) (f : Frame), s.TakesUp f → s.PassInv → f.kind = 0x18#8 → f.body.length = 2 →
    let F := frameAt f.body 0
    (∀ n, s.ranker.newest = some n → 1 ≤ (F - n).toNat ∧ (F - n).toNat ≤ 32767) →
    (s.ranker.stage = .placing →
      exec .frameMark s
        = .next
            { s with
              link := { s.link with decoding := .frameMark F }
              ranker := { s.ranker with cause := some (s.ranker.cause.getD .preempted) } })
    ∧ (s.ranker.stage = .constructing →
        let x := State.cutConstruction
          { s with link := { s.link with decoding := .frameMark F } } .preempted
        ∃ (t : State) (m : MapEnd), exec .frameMark s = .next t ∧ x.PassStarts t f F
          ∧ x.link.answers = s.link.answers ∧ x.link.accepted = s.link.accepted
          ∧ x.link.device = .service
          ∧ x.ranker.stage = .idle ∧ x.ranker.passIndex = s.ranker.passIndex
          ∧ x.ranker.newest = s.ranker.newest ∧ x.ranker.setup = s.ranker.setup
          ∧ x.profiles = s.profiles
          ∧ x.monitor.passes = s.monitor.passes + 1#32
          ∧ x.offLine.notices.grants
              = s.offLine.notices.grants ++ [⟨.mapEnd m, .waiting, s.ranker.passIndex⟩]
          ∧ m.cause = .preempted ∧ s.ranker.newest = some m.frame
          ∧ m.figures.dl.grants = 0 ∧ m.figures.ul.grants = 0
          ∧ m.figures.dl.unreached = s.ranker.lists.dl.length
          ∧ m.figures.ul.unreached = s.ranker.lists.ul.length))
  ∧ ∀ (s : State) (f : Frame) (F : U16), s.link.decoding = .frameMark F →
      s.link.accepted.head? = some f → s.PassStarts s.resolveDeferred f F

/-! ### Batches -/

/-- A batch whose shape and codes are right (R22, R23, R50, R55, R169, R171, R144): its entries are taken in
batch order, each a taking that the events it raises end. When none remains the answer carries the counts, OK
when none was refused and PARTIAL otherwise; it is built in the taking of the last entry, after its writes and
before its events. A step that leaves entries stands between two of them (the model's operand, log 4). Each
entry meets the state the one before it left, the arbiter having chosen in between (log 6). Accepted and refused
add up to the entries taken. -/
def Obligations.BatchTakesEntriesInOrder : Prop :=
  ∀ c kind size codesOk apply, BatchOf c kind size codesOk apply →
    (∀ (s : State) (f : Frame) (p : BatchProgress) (n : Nat),
      f.kind = kind → 1 ≤ num1 f.body 0 → num1 f.body 0 ≤ 32 →
      f.body.length = 1 + size * num1 f.body 0 →
      ((s.TakesUp f ∧ (batchEntries size f.body).all codesOk = true ∧ p = ⟨0, 0, []⟩)
        ∨ (s.link.resetHeld = false ∧ s.link.restart = .none ∧ s.link.answers.length < 16
            ∧ s.link.decoding = .batch p ∧ s.link.accepted.head? = some f)) →
      let rest := (batchEntries size f.body).drop p.taken
      let r := takeEntries apply (rest.take n) p s
      (rest.length ≤ n →
        ∃ x, exec (c n) s = .next (x.takeEvents r.events).arbitrate
          ∧ s.AnsweredAs x f (if r.progress.refused = [] then .ok else .partialBatch)
              (.batch r.progress.accepted r.progress.refused) r.state)
      ∧ (n < rest.length →
          exec (c n) s
            = .next
                (State.arbitrate
                  (State.takeEvents
                    { r.state with link := { r.state.link with decoding := .batch r.progress } }
                    r.events))))
    ∧ ∀ (es : List (List Byte)) (p : BatchProgress) (s : State),
        let r := takeEntries apply es p s
        takeEntries apply [] p s = ⟨p, s, []⟩
        ∧ (∀ e,
            let w := apply e (r.state.takeEvents r.events).arbitrate
            let q := r.progress
            takeEntries apply (es ++ [e]) p s
              = ⟨match w.reason with
                  | none => { q with taken := q.taken + 1, accepted := q.accepted + 1 }
                  | some why => { q with taken := q.taken + 1, refused := q.refused ++ [⟨q.taken, why⟩] },
                w.state, w.events⟩)
        ∧ r.progress.taken = p.taken + es.length
        ∧ r.progress.accepted + r.progress.refused.length
            = p.accepted + p.refused.length + es.length

/-- One entry of a QUALITY_BATCH (R22 to R25, R31, R32): refused UNKNOWN_HANDLE when its handle is not live;
otherwise taken as a sample of the named track: recovery from LOST, the settle path or the ordinary path, the
recording with the anchor reference, and the events it raises. -/
def Obligations.QualityEntryIsASample : Prop :=
  ∀ (s : State) (e : List Byte),
    let h := handleAtOffset e 0
    let S := min (num1 e 3) 127 * 16
    (s.lookup h = none → qualityEntry e s = ⟨s, some .unknownHandle, []⟩)
    ∧ ∀ u d, s.lookup h = some u → num1 e 2 = dirCode d →
        let tr : Track :=
          if u.life = .lost then { u.tracks.get d with settle := s.trackSetup.settle }
          else u.tracks.get d
        let moved : Nat := (tr.f + ((S : Int) - tr.f).tdiv 2).toNat
        let filtered : Track × Bool × Bool :=
          if 0 < tr.settle then
            ({ tr with
                f := moved, l := moved, settle := tr.settle - 1, fade := .steady, debounce := 0,
                fadeSamples := 0 }, false, false)
          else tr.ordinarySample s.trackSetup S
        let ref := (u.anchor.bind s.lookup).map fun a => (a.tracks.get d).f
        let event (k : EventKind) : Event :=
          { kind := k, dir := some d, who := some ⟨h, u.cls⟩, frame := s.ranker.newest }
        qualityEntry e s
          = { state :=
                s.putSub h.slot
                  { u with
                    life := if u.life = .lost then .active else u.life
                    tracks :=
                      u.tracks.put d
                        { filtered.1 with lastSample := s.ranker.passIndex, aRef := ref } }
              reason := none
              events :=
                (if filtered.2.1 then [event .fadeEnter] else [])
                  ++ if filtered.2.2 then [event .fadeReseed] else [] }

/-- The fast filter (R26): at a track whose settle remaining is 0, F moves by the difference to the sample
divided by 2^bf, truncating toward zero; a difference below 2^bf leaves it; under a steady input it comes to
rest within 2^bf − 1 of the sample, on the side it came from. -/
def Obligations.FastFilterMovesTowardSample : Prop :=
  (∀ (t : Track) (c : TrackSetup) (s : Nat), t.settle = 0 →
    ((t.takeSample c s).1.f : Int) = t.f + ((s : Int) - t.f).tdiv (2 ^ c.bf)
      ∧ ((t.filterSample c s).f : Int) = t.f + ((s : Int) - t.f).tdiv (2 ^ c.bf)
      ∧ (((s : Int) - t.f).natAbs < 2 ^ c.bf → (t.takeSample c s).1.f = t.f))
  ∧ ∀ (c : TrackSetup) (s f : Nat), 1 ≤ c.bf → ∃ n rest, ∀ k, n ≤ k →
      Nat.iterate (fun f => moveToward f s c.bf) k f = rest
        ∧ ((s : Int) - rest).natAbs ≤ 2 ^ c.bf - 1 ∧ (f ≤ s → rest ≤ s) ∧ (s ≤ f → s ≤ rest)

/-- The baseline and the fade detector of an ordinary sample (R27 to R30): the baseline moves only when the
track was STEADY; the detector's moves between the four states, its counts, and the reseed by the fade
timeout. -/
def Obligations.FadeDetectorFollowsRules : Prop :=
  (∀ (t : Track) (c : TrackSetup) (s : Nat),
    let t' := t.filterSample c s
    (t.fade = .steady →
      (t'.l : Int) = t.l + ((t'.f : Int) - t.l).tdiv (2 ^ c.bl))
    ∧ (t.fade ≠ .steady → t'.l = t.l)
    ∧ t' = { t with f := t'.f, l := t'.l })
  ∧ (∀ (t : Track) (c : TrackSetup),
      let deep := (t.l : Int) - t.f > 16 * c.tEnter
      let shallow := (t.l : Int) - t.f ≤ 16 * c.tExit
      let more := min 255 (t.fadeSamples + 1)
      (t.fade = .steady → ¬deep → t.detect c = (t, false))
      ∧ (t.fade = .steady → deep → c.dEnter = 1 →
          t.detect c = ({ t with fade := .faded, fadeSamples := 0, debounce := 0 }, true))
      ∧ (t.fade = .steady → deep → c.dEnter ≠ 1 →
          t.detect c = ({ t with fade := .entering, debounce := 1 }, false))
      ∧ (t.fade = .entering → ¬deep →
          t.detect c = ({ t with fade := .steady, debounce := 0 }, false))
      ∧ (t.fade = .entering → deep → c.dEnter ≤ t.debounce + 1 →
          t.detect c = ({ t with fade := .faded, fadeSamples := 0, debounce := 0 }, true))
      ∧ (t.fade = .entering → deep → t.debounce + 1 < c.dEnter →
          t.detect c = ({ t with debounce := t.debounce + 1 }, false))
      ∧ (t.fadeSamples ≤ 255 →
          (t.fade = .faded → ¬shallow → t.detect c = ({ t with fadeSamples := more }, false))
          ∧ (t.fade = .faded → shallow → c.dExit = 1 →
              t.detect c = ({ t with fade := .steady, debounce := 0, fadeSamples := 0 }, false))
          ∧ (t.fade = .faded → shallow → c.dExit ≠ 1 →
              t.detect c = ({ t with fade := .leaving, debounce := 1, fadeSamples := more }, false))
          ∧ (t.fade = .leaving → ¬shallow →
              t.detect c = ({ t with fade := .faded, debounce := 0, fadeSamples := more }, false))
          ∧ (t.fade = .leaving → shallow → c.dExit ≤ t.debounce + 1 →
              t.detect c = ({ t with fade := .steady, debounce := 0, fadeSamples := 0 }, false))
          ∧ (t.fade = .leaving → shallow → t.debounce + 1 < c.dExit →
              t.detect c
                = ({ t with debounce := t.debounce + 1, fadeSamples := more }, false))))
  ∧ ∀ (t : Track) (c : TrackSetup) (s : Nat),
      let r := (t.filterSample c s).detect c
      t.ordinarySample c s
        = if (r.1.fade = .faded ∨ r.1.fade = .leaving) ∧ c.fadeTimeout ≠ 0
              ∧ c.fadeTimeout < r.1.fadeSamples then
            ({ r.1 with
                l := r.1.f, fade := .steady, debounce := 0, fadeSamples := 0, settle := c.settle },
              r.2, true)
          else (r.1, r.2, false)

/-- One entry of a QUEUE_BATCH (R50 to R53): UNKNOWN_HANDLE for a handle that is not live; then the checks
of R51 in their order, and the correction of R52. -/
def Obligations.QueueEntryFollowsChecks : Prop :=
  ∀ (s : State) (e : List Byte),
    let h := handleAtOffset e 0
    let S := frameAt e 3
    let R := min (num4 e 5) 1048575
    (s.lookup h = none → queueEntry e s = ⟨s, some .unknownHandle, []⟩)
    ∧ ∀ u d, s.lookup h = some u → num1 e 2 = dirCode d →
        let g := u.demand.get d
        let accepted (c : Nat) : EntryTaken :=
          ⟨s.putSub h.slot
            { u with demand := u.demand.put d { g with backlog := R - c, stamp := some S } }, none, []⟩
        (s.ranker.newest = none → queueEntry e s = accepted 0)
        ∧ ∀ n, s.ranker.newest = some n →
            let future := 1 ≤ (S - n).toNat ∧ (S - n).toNat ≤ 32767
            let older := ∃ l, g.stamp = some l ∧ 1 ≤ (l - S).toNat ∧ (l - S).toNat ≤ 32767
            (future → queueEntry e s = ⟨s, some .future, []⟩)
            ∧ (¬future → 4 ≤ (n - S).toNat →
                queueEntry e s
                  = ⟨s, some .stale,
                      [{ kind := .reportStale, dir := some d, who := some ⟨h, u.cls⟩,
                         frame := some n }]⟩)
            ∧ (¬future → (n - S).toNat < 4 → older → queueEntry e s = ⟨s, some .stale, []⟩)
            ∧ (¬future → (n - S).toNat < 4 → ¬older →
                queueEntry e s
                  = accepted
                      ((g.ring.toList.filter fun x =>
                          x.written && decide ((n - x.frame).toNat ≤ 3)
                            && decide (1 ≤ (x.frame - S).toNat ∧ (x.frame - S).toNat ≤ 32767)).map
                        HistoryEntry.served).sum)

/-- One entry of an OUTCOME_BATCH (R55 to R58, R33, R34): UNKNOWN_HANDLE for a handle that is not live; then
the checks of R56 in their order; DELIVERED marks the entry and raises the offset, FAILED may add the served
bytes back, clears them, lowers the offset with its poor count and LINK_POOR latch, and raises
OUTCOME_FAILED. A stamp exactly 32768 frames from F is neither F nor later, so that R130 has a failed grant of
the newest frame added back; that one of an older frame is too is the model's choice (log 32). -/
def Obligations.OutcomeEntryFollowsChecks : Prop :=
  ∀ (s : State) (e : List Byte),
    let h := handleAtOffset e 0
    let F := frameAt e 3
    (s.lookup h = none → outcomeEntry e s = ⟨s, some .unknownHandle, []⟩)
    ∧ ∀ u d, s.lookup h = some u → num1 e 2 = dirCode d → num1 e 5 ≤ 1 →
        let g := u.demand.get d
        let x := g.ring[ringPos F]
        let t := u.tracks.get d
        (s.ranker.newest = none → outcomeEntry e s = ⟨s, some .noGrant, []⟩)
        ∧ ∀ n, s.ranker.newest = some n →
            (4 ≤ (n - F).toNat → outcomeEntry e s = ⟨s, some .stale, []⟩)
            ∧ ((n - F).toNat < 4 → ¬(x.written = true ∧ x.frame = F) →
                outcomeEntry e s = ⟨s, some .noGrant, []⟩)
            ∧ ((n - F).toNat < 4 → x.written = true → x.frame = F →
                (x.outcome ≠ .pending → outcomeEntry e s = ⟨s, some .alreadyReported, []⟩)
                ∧ (x.outcome = .pending → num1 e 5 = 0 →
                    outcomeEntry e s
                      = ⟨s.putSub h.slot
                          { u with
                            demand :=
                              u.demand.put d
                                { g with
                                  ring := g.ring.set (ringPos F) { x with outcome := .delivered } }
                            tracks :=
                              u.tracks.put d
                                { t with offset := min (t.offset + s.trackSetup.up) 160, poor := 0 } },
                        none, []⟩)
                ∧ (x.outcome = .pending → num1 e 5 = 1 →
                    let floor := t.offset - s.trackSetup.dn ≤ -640
                    let latches := floor ∧ s.trackSetup.poorLimit ≤ t.poor + 1
                    let counted :=
                      g.stamp = none
                        ∨ ∃ l, g.stamp = some l ∧ l ≠ F
                            ∧ ¬(1 ≤ (l - F).toNat ∧ (l - F).toNat ≤ 32767)
                    ∃ u', u'
                        = { u with
                            demand :=
                              u.demand.put d
                                { g with
                                  backlog := (u'.demand.get d).backlog
                                  ring :=
                                    g.ring.set (ringPos F) { x with served := 0, outcome := .failed } }
                            tracks :=
                              u.tracks.put d
                                { t with
                                  offset := max (t.offset - s.trackSetup.dn) (-640)
                                  poor := (u'.tracks.get d).poor } }
                      ∧ (counted → (u'.demand.get d).backlog = min 1048575 (g.backlog + x.served))
                      ∧ (¬counted → (u'.demand.get d).backlog = g.backlog)
                      ∧ (¬floor → (u'.tracks.get d).poor = t.poor)
                      ∧ (floor → (u'.tracks.get d).poor
                          = if s.trackSetup.poorLimit ≤ t.poor + 1 then 0 else t.poor + 1)
                      ∧ ∃ s', (latches → s' = (s.putSub h.slot u').latchMember h.slot (.linkPoor d))
                        ∧ (¬latches → s' = s.putSub h.slot u')
                        ∧ outcomeEntry e s
                            = ⟨s', none,
                                [{ kind := .outcomeFailed, dir := some d, who := some ⟨h, u.cls⟩,
                                   frame := some n }]⟩))

/-- A report and a grant write of the same demand group (R54): with a stamp earlier than the frame of the
grant the backlog is the same in either order; with the stamp of that frame the two orders give
max(0, R − C − s) and max(0, R − C). -/
def Obligations.ReportAndGrantInEitherOrder : Prop :=
  ∀ (g : Demand) (n stamp : U16) (kind : GrantKind) (tiles served count : Nat),
    g.ring[ringPos n].written = false → (n - stamp).toNat ≤ 3 →
    let C := g.correction n stamp
    let reportFirst := ((g.report stamp count C).writeGrant n kind tiles served).backlog
    let granted := g.writeGrant n kind tiles served
    let grantFirst := (granted.report stamp count (granted.correction n stamp)).backlog
    reportFirst = count - C - served
    ∧ (stamp ≠ n → grantFirst = count - C - served)
    ∧ (stamp = n → grantFirst = count - C)

/-! ### The Energy Budget Controller -/

/-- The segment map (R65) and ENERGY_REPORT (R66): upward to r(x), downward to r(x + H), otherwise unchanged;
the reading is kept with age 0, and nothing else changes. The answer's summary is built after it. -/
def Obligations.EnergyReportSelectsSegment : Prop :=
  (∀ t : EnergyTable, t.valid = true →
    let b (k : Nat) := t.bound k
    let r (y : Nat) := t.segmentOf y
    (∀ y, r y = 1 + (List.range 4).countP (fun k => decide (min y 255 ≤ b (k + 1))))
    ∧ (∀ y, r y = r (min y 255)) ∧ r 255 = 1 ∧ r 0 = 5
    ∧ ∀ y ≤ 255, (b 1 < y → r y = 1) ∧ (b 2 < y → y ≤ b 1 → r y = 2) ∧ (b 3 < y → y ≤ b 2 → r y = 3)
        ∧ (b 4 < y → y ≤ b 3 → r y = 4) ∧ (y ≤ b 4 → r y = 5))
  ∧ State.reset.energy.table.bounds = #v[200, 150, 100, 50]
  ∧ ∀ (s : State) (f : Frame), s.TakesUp f → f.kind = 0x1C#8 → f.body.length = 1 →
      let x := num1 f.body 0
      let c := s.energy.segment
      let r (y : Nat) := s.energy.table.segmentOf y
      let h := s.energy.table.hysteresis
      ∃ seg, s.AnswersWith .energyReport f .ok .empty
          { s with
            energy :=
              { s.energy with segment := seg, reading := some x, age := 0, stale := false } }
        ∧ (r x < c → seg = r x)
        ∧ (c ≤ r x → c < r (x + h) → seg = r (x + h))
        ∧ (c ≤ r x → r (x + h) ≤ c → seg = c)
        ∧ (r x = c → seg = c)

/-- The graded target (R71) and the movement of the active budget (R72). -/
def Obligations.TargetAndActiveBudget : Prop :=
  (∀ e : Energy, e.table.valid = true → e.table.graded = true →
    (e.segment = 1 ∨ e.segment = 5 → e.target = e.table.budget e.segment)
    ∧ (2 ≤ e.segment → e.segment ≤ 4 → ∀ x, e.reading = some x →
        let low := e.table.bound e.segment
        let high := e.table.bound (e.segment - 1)
        let below := e.table.budget e.segment
        let above := e.table.budget (e.segment - 1)
        let x' := max low (min x high)
        low < high
          ∧ e.target = below + (above - below) * (x' - low) / (high - low)
          ∧ (x ≤ low → e.target = below) ∧ (high ≤ x → e.target = above)))
  ∧ ∀ (e : Energy) (t : Nat),
      (e.active < t → e.table.riseJump = true → e.moved t = t)
      ∧ (e.active < t → e.table.riseJump = false → e.moved t = min t (e.active + e.table.slew))
      ∧ (t < e.active → e.table.fallJump = true → e.moved t = t)
      ∧ (t < e.active → e.table.fallJump = false → e.moved t = max t (e.active - e.table.slew))
      ∧ (t = e.active → e.moved t = e.active)

/-- The pass allowance, its four steps taken whole (R68, R70, R72 to R75): the reading's age, staleness and
the forced segment with ENERGY_STALE when it begins; the target; the active budget; the allowance, lifted for
an emergency candidate on the downlink list when the table says so. -/
def Obligations.AllowanceTakenInFourSteps : Prop :=
  ∀ (s : State) (emergency : Bool), s.energy.age ≤ 65536 →
    let e := s.energy
    let age := if e.reading = none ∨ e.age = 65536 then e.age else e.age + 1
    let stale := e.reading = none ∨ s.ranker.setupCopy.energyTimeout < age
    let seg := if stale then 5 else e.segment
    let e1 : Energy := { e with age := age, stale := decide stale, segment := seg }
    let e2 : Energy := { e1 with active := e1.moved e1.target }
    let lifts := e.table.lift = true ∧ emergency = true
    let allowance : Allowance :=
      { budget := if lifts then max e2.active (e.table.budget 1) else e2.active
        carriers := if lifts then e.table.carrier 1 else e.table.carrier seg
        segment := seg }
    let s' : State := { s with energy := e2, ranker := { s.ranker with allowance := allowance } }
    (e.table.graded = false → e1.target = e.table.budget seg)
    ∧ (stale ∧ e.stale = false →
        s.takeAllowance emergency = s'.latchDevice .energyStale s.ranker.newest)
    ∧ (¬(stale ∧ e.stale = false) → s.takeAllowance emergency = s')

/-! ### The Monitor Unit -/

/-- MONITOR_SETUP (R158, R159): an unknown target, kind, filter, policy or V = 0, a threshold out of range, a
subscriber filter above slot 95, or a flag or actions byte that is no code (log 19), is BAD_FIELD; otherwise
the monitor's settings are replaced, its count loaded with 2^32 − V and its flags cleared, or the buffer's
policy and threshold replaced. -/
def Obligations.MonitorSetupLoads : Prop :=
  ∀ (s : State) (f : Frame), s.TakesUp f → f.kind = 0x20#8 → f.body.length = 13 →
    let v (i : Nat) := num1 f.body i
    let after := num4 f.body 8
    let who := handleAtOffset f.body 6
    let ok := v 1 ≤ 1 ∧ v 2 ≤ 12 ∧ v 3 ≤ 2 ∧ v 5 ≤ 1 ∧ (v 5 = 1 → who.slot ≤ 95) ∧ after ≠ 0 ∧ v 12 < 8
    let okBuffer := v 1 ≤ 1 ∧ 1 ≤ v 2 ∧ v 2 ≤ 16
    (4 < v 0 → s.Refuses .monitorSetup f .badField)
    ∧ (v 0 < 4 → ¬ok → s.Refuses .monitorSetup f .badField)
    ∧ (v 0 < 4 → ok →
        ∃ s' m, s.AnswersWith .monitorSetup f .ok .empty s'
          ∧ s' = { s with monitor := { s.monitor with monitors := s'.monitor.monitors } }
          ∧ (∀ i : Fin 4,
              s'.monitor.monitors[i] = if i.val = v 0 then m else s.monitor.monitors[i])
          ∧ (m.enable = true ↔ v 1 = 1) ∧ m.kind.code = v 2 ∧ m.filter.code = v 3
          ∧ m.classMask.toNat = v 4 ∧ m.who = (if v 5 = 1 then some who else none)
          ∧ m.v.toNat = after
          ∧ m.actions = ⟨(v 12).testBit 0, (v 12).testBit 1, (v 12).testBit 2⟩
          ∧ m.count.toNat = 2 ^ 32 - after ∧ m.overflow = false ∧ m.armed = false)
    ∧ (v 0 = 4 → ¬okBuffer → s.Refuses .monitorSetupBuffer f .badField)
    ∧ (v 0 = 4 → okBuffer →
        s.AnswersWith .monitorSetupBuffer f .ok .empty
          { s with
            monitor :=
              { s.monitor with policy := if v 1 = 0 then .stop else .wrap, threshold := v 2 } })

/-- COUNTER_READ, CAPTURE_READ, TRACE_READ and TRACE_RESUME (R157, R160, R161): what each answers and the one
thing each may change. A clear option that is neither 0 nor 1 is BAD_FIELD (log 19). -/
def Obligations.MonitorReadsAnswer : Prop :=
  ∀ (s : State) (f : Frame), s.TakesUp f →
    (f.kind = 0x21#8 → f.body.length = 1 →
      let m := s.monitor
      let counters : AnswerData :=
        .counters
          { passes := m.passes, dlTiles := m.dlTiles, ulTiles := m.ulTiles, monitors := m.monitors,
            frozen := m.frozen, policy := m.policy, threshold := m.threshold,
            held := m.records.length }
      (1 < num1 f.body 0 → s.Refuses .counterRead f .badField)
      ∧ (num1 f.body 0 = 0 → s.AnswersWith .counterRead f .ok counters s)
      ∧ (num1 f.body 0 = 1 →
          s.AnswersWith .counterRead f .ok counters
            { s with
              monitor := { m with monitors := m.monitors.map fun x => { x with overflow := false } } }))
    ∧ (f.kind = 0x22#8 → f.body.length = 1 →
        let n := num1 f.body 0
        (n = 0 ∨ 16 < n → s.Refuses .captureRead f .badField)
        ∧ (1 ≤ n → n ≤ 16 →
            ∃ out left, s.monitor.records = out ++ left ∧ out.length = min n s.monitor.records.length
              ∧ s.AnswersWith .captureRead f .ok (.captures left.length out)
                  { s with monitor := { s.monitor with records := left } }))
    ∧ (f.kind = 0x23#8 → f.body = [] →
        s.AnswersWith .traceRead f .ok (.trace s.monitor.frozen s.monitor.trace) s)
    ∧ (f.kind = 0x24#8 → f.body = [] →
        s.AnswersWith .traceResume f .ok .empty
          { s with monitor := { s.monitor with frozen := false } })

/-- Whether an event qualifies for a monitor (R147). -/
def Obligations.EventQualifies : Prop :=
  ∀ (m : Monitor) (e : Event),
    (m.qualifies e = true ↔
      e.kind = m.kind
        ∧ (m.filter = .both ∨ (m.filter = .dl ∧ e.dir = some .dl) ∨ (m.filter = .ul ∧ e.dir = some .ul)
            ∨ e.dir = none)
        ∧ (∀ w, e.who = some w → m.classMask.getLsbD w.cls.val = true)
        ∧ (∀ h, m.who = some h → ∃ w, e.who = some w ∧ w.handle.slot = h.slot ∧ w.handle.gen = h.gen))
    ∧ ∀ on armed ran v acts count,
        ({ m with
            enable := on, armed := armed, overflow := ran, v := v, actions := acts, count := count } :
          Monitor).qualifies e = m.qualifies e

/-- The Monitor Unit takes an event (R148 to R152, R156), and a capture is built and joins the buffer (R153 to
R155): the four monitors as each stood, in ascending order a pending capture and then the ALERT action of an
overflow, the freeze last, the trace entry of a decision while the trace is not frozen; MONITOR_OVERFLOW
latched with the frame of the event and one notice of it at most (R149); the record's snapshot, the buffer's
policy when it is full, and the notice of a rise to the threshold. The ascending order is R152's for the records;
for the notices that several monitors raise on one event it is the model's choice (log 11). -/
def Obligations.EventTakenByMonitors : Prop :=
  (∀ (s : State) (e : Event) (entry : Option TraceEntry),
    let t := s.takeEvent e entry
    let counts (m : Monitor) := m.enable && m.qualifies e
    let overflows (m : Monitor) := counts m && m.count == 0xFFFFFFFF#32
    let freezes := monitorIndices.any fun i =>
      overflows s.monitor.monitors[i] && s.monitor.monitors[i].actions.freeze
    let held (m : Monitor) := m.armed && !m.qualifies e
    let alerts (m : Monitor) := overflows m && m.actions.alert
    let told := monitorIndices.foldl
      (fun x i =>
        let m := s.monitor.monitors[i]
        let y := if m.armed && m.qualifies e then x.offerCapture (s.captureRecord i.val e) else x
        if alerts m then y.latchDevice .monitorOverflow e.frame else y)
      s
    let ofOverflow (x : GeneralEntry) : Bool :=
      match x.notice with
      | .alert a => a.kind == .device .monitorOverflow
      | .capture _ => false
    (∀ i : Fin 4,
      let m := s.monitor.monitors[i]
      t.monitor.monitors[i]
        = { m with
            enable := m.enable && !freezes
            count := if overflows m then 0#32 - m.v else if counts m then m.count + 1#32 else m.count
            overflow := m.overflow || overflows m
            armed := held m || (overflows m && m.actions.capture) })
    ∧ t.monitor.frozen = (s.monitor.frozen || freezes)
    ∧ (∀ x, entry = some x → s.monitor.frozen = false →
        t.monitor.trace
          = (if s.monitor.trace.length < 16 then s.monitor.trace else s.monitor.trace.tail) ++ [x])
    ∧ (entry = none ∨ s.monitor.frozen = true → t.monitor.trace = s.monitor.trace)
    ∧ (t.monitor.records = told.monitor.records ∧ t.link.alerts = told.link.alerts
        ∧ t.notices.general = told.notices.general)
    ∧ t.hasAlert .monitorOverflow
        = (s.hasAlert .monitorOverflow || monitorIndices.any fun i => alerts s.monitor.monitors[i])
    ∧ (∃ more, t.notices.general = s.notices.general ++ more
        ∧ (more.filter ofOverflow).length ≤ 1
        ∧ ∀ x ∈ more, ofOverflow x = true →
            x = ⟨.alert
                  { kind := .device .monitorOverflow, handle := none, dir := none, frame := e.frame },
                .waiting⟩)
    ∧ t.monitor
        = { s.monitor with
            monitors := t.monitor.monitors
            records := t.monitor.records
            frozen := t.monitor.frozen
            trace := t.monitor.trace }
    ∧ t = { s with
            link := { s.link with alerts := t.link.alerts }
            notices := { s.notices with general := t.notices.general }
            monitor := t.monitor })
  ∧ (∀ (s : State) (i : Nat) (e : Event),
      let d := e.dir.getD .dl
      ∃ snapshot,
        s.captureRecord i e
            = { monitor := i, kind := e.kind, frame := e.frame, dir := e.dir,
                handle := e.who.map Subject.handle, snapshot := snapshot }
          ∧ ((∀ w, e.who = some w → s.lookup w.handle = none) → snapshot = none)
          ∧ ∀ w u, e.who = some w → s.lookup w.handle = some u →
              snapshot
                = some
                    { cls := u.cls, life := u.life
                      rateStep :=
                        stepFor s.rateTable (s.profile u.cls).kind
                          (s.quality u d s.ranker.setup.staleLimit s.ranker.setup.stalePenalty)
                      f := (u.tracks.get d).f, l := (u.tracks.get d).l, fade := (u.tracks.get d).fade
                      offset := (u.tracks.get d).offset, backlog := (u.demand.get d).backlog
                      credit := (u.service.get d).credit, avg := (u.service.get d).avg
                      segment := s.energy.segment, active := s.energy.active })
  ∧ ∀ (s : State) (r : CaptureRecord),
      let joined : State :=
        { s with monitor := { s.monitor with records := s.monitor.records ++ [r] } }
      let notice : GeneralNotice := .capture { held := s.monitor.threshold, frame := s.ranker.newest }
      (s.monitor.records.length < 16 →
        (s.monitor.records.length + 1 ≠ s.monitor.threshold → s.offerCapture r = joined)
        ∧ (s.monitor.records.length + 1 = s.monitor.threshold →
            (s.notices.general.length < 24 →
              s.offerCapture r
                = { joined with
                    notices := { s.notices with general := s.notices.general ++ [⟨notice, .waiting⟩] } })
            ∧ (24 ≤ s.notices.general.length → s.offerCapture r = joined.setAlert .noticeLost)))
      ∧ (16 ≤ s.monitor.records.length →
          (s.monitor.policy = .stop → s.offerCapture r = s.latchDevice .captureFull s.ranker.newest)
          ∧ (s.monitor.policy = .wrap →
              s.offerCapture r
                = { s with
                    monitor := { s.monitor with records := s.monitor.records.tail ++ [r] } }))

/-! ### Construction -/

/-- CONSTRUCT_SLOT at a slot that adds no candidate (R84, R85, R90): a FREE slot is passed over; a SUSPENDED
or LOST subscriber is seen but not ACTIVE; an ACTIVE one whose larger sample age exceeds the lost limit
becomes LOST, latches LOST and raises LOST_ENTER. Then construction comes to the next slot, or ends. -/
def Obligations.ConstructSlotPassesOver : Prop :=
  ∀ s : State, s.link.resetHeld = false → s.ranker.stage = .constructing → s.ranker.nextSlot < 96 →
    let n := s.ranker.nextSlot
    let h : Handle := ⟨n, (s.slot n).gen⟩
    let seen (u : Subscriber) (x : State) : State :=
      { x with
        ranker :=
          { x.ranker with
            views :=
              x.ranker.views.setIfInBounds n
                ⟨some h, false, ⟨u.demand.dl.backlog, u.demand.ul.backlog⟩, ⟨none, none⟩⟩ } }
    ((s.slot n).sub = none → exec .constructSlot s = .next s.pastSlot)
    ∧ ∀ u, (s.slot n).sub = some u →
        (u.life ≠ .active → exec .constructSlot s = .next (seen u s).pastSlot)
        ∧ (u.life = .active →
            (s.ranker.setupCopy.lostLimit < (s.ranker.passIndex - u.tracks.dl.lastSample).toNat
              ∨ s.ranker.setupCopy.lostLimit < (s.ranker.passIndex - u.tracks.ul.lastSample).toNat) →
            exec .constructSlot s
              = .next
                  (State.pastSlot
                    (((seen u (s.putSub n { u with life := .lost })).latchMember n .lost).takeEvent
                      { kind := .lostEnter, dir := none, who := some ⟨h, u.cls⟩,
                        frame := s.ranker.newest } none)))

/-- CONSTRUCT_SLOT at an ACTIVE subscriber that passes the lost check (R86 to R93): both credits, the slot
view, and the candidate it adds to each list, with its snapshot, tier, and metric. -/
def Obligations.ConstructSlotConsiders : Prop :=
  ∀ (s : State) (u : Subscriber), s.link.resetHeld = false → s.ranker.stage = .constructing →
    s.ranker.nextSlot < 96 → (s.slot s.ranker.nextSlot).sub = some u → u.life = .active →
    (∀ d, (s.ranker.passIndex - (u.tracks.get d).lastSample).toNat ≤ s.ranker.setupCopy.lostLimit) →
    let n := s.ranker.nextSlot
    let h : Handle := ⟨n, (s.slot n).gen⟩
    let p := s.profileCopy u.cls
    let backlog (d : Direction) := (u.demand.get d).backlog
    let credit (d : Direction) : Int :=
      let g : Int := p.rate.get d
      let c := (u.service.get d).credit
      if p.kind = .guaranteed then
        (if 0 < backlog d then max (-8 * g) (min (c + g) (8 * g)) else max (-8 * g) (min c g))
      else 0
    let step (d : Direction) :=
      stepFor s.rateTable p.kind
        (s.quality u d s.ranker.setupCopy.staleLimit s.ranker.setupCopy.stalePenalty)
    let metric (d : Direction) :=
      let m := min 65535 (s.payloadOf (step d) * p.weight * 4096 / max (u.service.get d).avg 16)
      if (u.tracks.get d).fade = .faded ∨ (u.tracks.get d).fade = .leaving then m / 2 ^ p.defer else m
    let guaranteed (d : Direction) := p.kind = .guaranteed ∧ 0 < credit d
    let candidate (d : Direction) : Candidate :=
      { handle := h, kind := .data, cls := u.cls
        tier :=
          if p.kind = .emergency then 0
          else if guaranteed d then (if d = .dl then 1 else 2)
          else if d = .dl then 2 else 3
        key :=
          if p.kind = .emergency then .tie
          else if guaranteed d then .credit (credit d) else .metric (metric d)
        rateStep := step d, r := s.payloadOf (step d), fade := (u.tracks.get d).fade
        backlog := backlog d, maxTiles := p.maxTiles.get d, minTiles := p.minTiles
        dlCost := if d = .dl then u.dlCost else 0
        ulCap := if d = .dl then 0 else u.ulCap
        extended := decide (d = .ul ∧ s.ranker.setupCopy.guard < u.timing) }
    let poll : Candidate :=
      { candidate .ul with
        kind := .poll, tier := 1, key := .tie, rateStep := 1, r := s.payloadOf 1, backlog := 0 }
    let data (d : Direction) := 0 < backlog d ∧ 1 ≤ step d
    let polled := backlog .ul = 0 ∧ 0 < p.poll
      ∧ p.poll ≤ (s.ranker.passIndex - u.service.ul.lastGrant.getD u.admitIndex).toNat
    let u' : Subscriber :=
      { u with
        service :=
          ⟨{ u.service.dl with credit := credit .dl }, { u.service.ul with credit := credit .ul }⟩ }
    exec .constructSlot s
      = .next
          (State.pastSlot
            { s.putSub n u' with
              ranker :=
                { s.ranker with
                  views :=
                    s.ranker.views.setIfInBounds n
                      ⟨some h, true, ⟨backlog .dl, backlog .ul⟩, ⟨none, none⟩⟩
                  lists :=
                    ⟨s.ranker.lists.dl ++ (if data .dl then [candidate .dl] else []),
                      s.ranker.lists.ul
                        ++ (if data .ul then [candidate .ul] else if polled then [poll] else [])⟩ } })

/-- The end of construction (R94, R95, R110, R134): both lists are permuted into order, the allowance is
taken with the statement whether the downlink list holds an EMERGENCY candidate, and both Placers and both
assemblers start. -/
def Obligations.PlacementBegins : Prop :=
  ∀ (s : State) (frame : U16), s.ranker.newest = some frame →
    let t := s.beginPlacement
    let tie (c : Candidate) := (c.handle.slot + 96 - frame.toNat % 96) % 96
    let value (c : Candidate) : Int :=
      match c.key with
      | .tie => 0
      | .credit x => x
      | .metric m => m
    let notAfter (a b : Candidate) : Prop :=
      a.tier < b.tier
        ∨ (a.tier = b.tier ∧ (value b < value a ∨ (value a = value b ∧ tie a ≤ tie b)))
    ∃ lists emergency,
      (∀ d, (lists.get d).Perm (s.ranker.lists.get d) ∧ (lists.get d).Pairwise notAfter)
      ∧ (emergency = true ↔ ∃ c ∈ s.ranker.lists.dl, (s.profileCopy c.cls).kind = .emergency)
      ∧ ∃ a, a = State.takeAllowance { s with ranker := { s.ranker with lists := lists } } emergency
        ∧ t = { a with
                ranker := { a.ranker with stage := .placing }
                placers :=
                  ⟨{ stage := .running, list := lists.dl, next := 1,
                      carriers := a.ranker.allowance.carriers, ptrCarrier := 0, ptrTile := 0,
                      pool := 24 * a.ranker.allowance.carriers, grants := 0, tiles := 0, guards := 0,
                      reached := 0 },
                    { stage := .running, list := lists.ul, next := 1,
                      carriers := a.ranker.allowance.carriers, ptrCarrier := 0, ptrTile := 0,
                      pool := 24 * a.ranker.allowance.carriers, grants := 0, tiles := 0, guards := 0,
                      reached := 0 }⟩
                dlBudget := a.ranker.allowance.budget
                dlSpent := 0
                notices :=
                  { a.notices with
                    assemblers :=
                      .both
                        { stage := .opened, frame := frame, passIndex := s.ranker.passIndex,
                          chunk := s.ranker.setupCopy.chunk, pending := [], seq := 0 } } }

/-! ### Placement -/

/-- A RUNNING Placer's next candidate skipped (R111, R112, R114 to R118, R127): GONE when its subscriber is
not live or not ACTIVE, whatever the pool; POWER when nothing can be afforded; SLIVER when its tiles are below
both the class minimum and its want. Nothing is written to a record; the decision is reported. -/
def Obligations.PlacerSkips : Prop :=
  ∀ (s : State) (d : Direction) (begun : Bool) (c : Candidate) (frame : U16),
    s.link.resetHeld = false → s.ranker.stage = .placing → (s.placers.get d).stage = .running →
    s.ranker.newest = some frame →
    (s.placers.get d).list[(s.placers.get d).next - 1]? = some c →
    let p := s.placers.get d
    let skips (k : EventKind) (r : TraceResult) (tiles : Nat) : Prop :=
      s.placeCandidate d c
          = State.takeEvent
              { s with
                placers := s.placers.put d { p with next := p.next + 1, reached := p.reached + 1 } }
              { kind := k, dir := some d, who := some ⟨c.handle, c.cls⟩, frame := some frame }
              (some
                { frame := frame, dir := d, handle := c.handle, result := r, tiles := tiles,
                  tier := c.tier })
        ∧ (s.ranker.cause = none →
            exec (.placeCandidate d begun) s = .next (s.placeCandidate d c).arbitrate)
    let whole := min ((c.backlog + c.r - 1) / c.r) c.maxTiles
    let want := if c.kind = .poll then 1 else if d = .dl then whole else min whole c.ulCap
    let t := if d = .dl then min (min want (s.dlBudget / c.dlCost)) p.pool else min want p.pool
    let dry := (d = .dl ∧ s.dlBudget / c.dlCost = 0) ∨ (d = .ul ∧ c.ulCap = 0)
    ((∀ u, s.lookup c.handle = some u → u.life ≠ .active) → skips .skipGone .skipGone 0)
    ∧ ∀ u, s.lookup c.handle = some u → u.life = .active → p.pool ≠ 0 →
        (dry → skips .skipPower .skipPower 0)
        ∧ (¬dry → t < c.minTiles → t < want → skips .skipSliver .skipSliver t)

/-- A RUNNING Placer's next candidate granted (R114 to R127): its tiles, runs and guard tile, the fill
pointer, pool, tallies and downlink budget; the history entry, backlog, credit and last-grant index of its
subscriber; the slot view; the grant record handed to the assembler; and the decision reported. -/
def Obligations.PlacerGrants : Prop :=
  ∀ (s : State) (d : Direction) (begun : Bool) (c : Candidate) (frame : U16) (u : Subscriber),
    s.link.resetHeld = false → s.ranker.stage = .placing → (s.placers.get d).stage = .running →
    s.ranker.newest = some frame →
    (s.placers.get d).list[(s.placers.get d).next - 1]? = some c →
    s.lookup c.handle = some u → u.life = .active → (s.placers.get d).pool ≠ 0 →
    let p := s.placers.get d
    let whole := min ((c.backlog + c.r - 1) / c.r) c.maxTiles
    let want := if c.kind = .poll then 1 else if d = .dl then whole else min whole c.ulCap
    let t := if d = .dl then min (min want (s.dlBudget / c.dlCost)) p.pool else min want p.pool
    let room := 24 - p.ptrTile
    let guard1 := decide (d = .ul ∧ t ≤ room ∧ p.ptrTile + t < 24) && c.extended
    let guard2 := decide (d = .ul ∧ room < t ∧ t - room < 24) && c.extended
    let guards := if guard1 || guard2 then 1 else 0
    let tile := if t ≤ room then p.ptrTile + t + guards else t - room + guards
    let moves := t ≤ room ∧ 24 ≤ tile ∧ p.ptrCarrier = 0 ∧ p.carriers = 2
    let run1 : Run := ⟨p.ptrCarrier, p.ptrTile, min t room, guard1⟩
    let run2 : Option Run := if t ≤ room then none else some ⟨1, 0, t - room, guard2⟩
    let payload := if c.kind = .poll then 0 else min c.backlog (t * c.r)
    let spent := if d = .dl then t * c.dlCost else 0
    let g := u.demand.get d
    let v := u.service.get d
    let prof := s.profileCopy c.cls
    let u' : Subscriber :=
      { u with
        demand :=
          u.demand.put d
            { g with
              backlog := g.backlog - payload
              ring := g.ring.set (ringPos frame) ⟨true, frame, c.kind, t, payload, .pending⟩ }
        service :=
          u.service.put d
            { v with
              lastGrant := some s.ranker.passIndex
              credit :=
                if prof.kind = .guaranteed then
                  max (v.credit - payload) (-8 * ((prof.rate.get d : Nat) : Int))
                else v.credit } }
    let written : State :=
      { s.putSub c.handle.slot u' with
        ranker :=
          { s.ranker with
            views :=
              s.ranker.views.setIfInBounds c.handle.slot
                { s.view c.handle.slot with
                  grant := (s.view c.handle.slot).grant.put d (some ⟨t, payload⟩) } }
        placers :=
          s.placers.put d
            { p with
              next := p.next + 1
              reached := p.reached + 1
              ptrCarrier := if t ≤ room then (if moves then 1 else p.ptrCarrier) else 1
              ptrTile := if moves then 0 else tile
              pool := p.pool - t - guards
              grants := p.grants + 1
              tiles := p.tiles + t
              guards := p.guards + guards }
        dlBudget := s.dlBudget - spent
        dlSpent := s.dlSpent + spent }
    ¬((d = .dl ∧ s.dlBudget / c.dlCost = 0) ∨ (d = .ul ∧ c.ulCap = 0)) →
    ¬(t < c.minTiles ∧ t < want) →
    s.placeCandidate d c
        = (written.handRecord d
              ⟨frame, d, c.handle, c.tier, c.kind, c.rateStep, run1, run2, payload⟩).takeEvent
            { kind := if c.kind = .poll then .pollGrant else .grant, dir := some d,
              who := some ⟨c.handle, c.cls⟩, frame := some frame }
            (some
              { frame := frame, dir := d, handle := c.handle,
                result := if c.kind = .poll then .poll else .granted, tiles := t, tier := c.tier })
      ∧ (s.ranker.cause = none →
          exec (.placeCandidate d begun) s = .next (s.placeCandidate d c).arbitrate)

/-- The end of a Placer (R97, R111, R113, R128, R136): LIST_DONE past its list, POOL_EMPTY at a live candidate
with an empty pool, STOPPED when a truncation stands, after the candidate it was working on if it had begun
it (the model's operand, log 3); that the end then falls in the step of the candidate, after the arbiter's
choice of that taking, is the model's choice (log 22). With the other Placer ended the pass completes in the
same taking, and in the same step a waiting FRAME_MARK starts its pass, or a waiting SERVICE_OFF enters CONFIG
(`State.afterEnd`; R99, R177), which is deduced from 95_what_each_step_holds (log 20). -/
def Obligations.PlacerEnds : Prop :=
  ∀ (s : State) (d : Direction) (begun : Bool), s.link.resetHeld = false →
    s.ranker.stage = .placing → (s.placers.get d).stage = .running →
    let p := s.placers.get d
    let next := p.list[p.next - 1]?
    let ended (x : State) (why : EndReason) : State :=
      (State.flush
        { x with placers := x.placers.put d { x.placers.get d with stage := .ended why } } d).afterEnd d
    (s.ranker.cause = none →
      (next = none → exec (.placeCandidate d begun) s = .next (ended s .listDone))
      ∧ ∀ c u, next = some c → s.lookup c.handle = some u → u.life = .active → p.pool = 0 →
          exec (.placeCandidate d begun) s = .next (ended s .poolEmpty).arbitrate)
    ∧ (s.ranker.cause.isSome = true →
        (next = none ∨ begun = false →
          exec (.placeCandidate d begun) s = .next (ended s .stopped))
        ∧ ∀ c, next = some c →
            exec (.placeCandidate d true) s
              = .next
                  (if ((s.placeCandidate d c).placers.get d).stage = .running then
                    ended (s.placeCandidate d c).arbitrate .stopped
                  else (s.placeCandidate d c).arbitrate))

/-- A grant record handed to its assembler (R135), and the flush of an ended Placer's assembler (R136). -/
def Obligations.ChunksFollowRecords : Prop :=
  ∀ (s : State) (d : Direction),
    let a := s.notices.assemblers.get d
    let queued (records : List GrantRecord) : List GrantEntry :=
      s.notices.grants ++ [⟨.chunk ⟨a.frame, d, a.seq, records⟩, .waiting, a.passIndex⟩]
    (∀ g : GrantRecord,
      (a.pending.length + 1 ≠ a.chunk →
        s.handRecord d g
          = { s with
              notices :=
                { s.notices with
                  assemblers :=
                    s.notices.assemblers.put d { a with pending := a.pending ++ [g] } } })
      ∧ (a.pending.length + 1 = a.chunk →
          s.handRecord d g
            = { s with
                notices :=
                  { s.notices with
                    grants := queued (a.pending ++ [g])
                    assemblers :=
                      s.notices.assemblers.put d { a with pending := [], seq := a.seq + 1 } } }))
    ∧ (a.pending = [] →
        s.flush d
          = { s with
              notices :=
                { s.notices with
                  assemblers := s.notices.assemblers.put d { a with stage := .closed } } })
    ∧ (a.pending ≠ [] →
        s.flush d
          = { s with
              notices :=
                { s.notices with
                  grants := queued a.pending
                  assemblers :=
                    s.notices.assemblers.put d
                      { a with stage := .closed, pending := [], seq := a.seq + 1 } } })

/-- The completion of a pass (R101 to R105, R96, R97, R138): the accounting of every ACTIVE subscriber; its
latches slot by slot, STARVED_DL, SHORTFALL_DL, STARVED_UL and SHORTFALL_UL within a slot and then DEADLINE,
with the notices of the unmasked ones that were not latched joining the general section in that order while it
has room, NOTICE_LOST when one has none; the MAP_END at the tail of the grant section, the fixed counters, the
stage, cause and timer; then the UNREACHED events of each list in order and TRUNCATION. The arbiter chooses at
the end of the taking, so that on a free line MAP_END goes before the alert notices of the taking: the model's
choice (log 6). The class that the shortfall rule goes by is the one the record holds now, with the pass's copy
of its profile: the model's choice where a LINK_UPDATE changed it during the pass (log 31). That the candidate
lists stand is too (log 24), and so is that a subscriber seen ACTIVE and granted, then suspended and resumed, is
averaged with its grant (log 33). -/
def Obligations.CompletionKeepsAccounts : Prop :=
  ∀ (s : State) (frame : U16), s.ranker.newest = some frame →
    let setup := s.ranker.setupCopy
    let left (d : Direction) := (s.placers.get d).list.drop (s.placers.get d).reached
    let figures (d : Direction) : MapFigures :=
      { grants := (s.placers.get d).grants, tiles := (s.placers.get d).tiles
        guards := (s.placers.get d).guards, unreached := (left d).length }
    let unreached (d : Direction) : List Event :=
      (left d).map fun c =>
        { kind := .unreached, dir := some d, who := some ⟨c.handle, c.cls⟩, frame := some frame }
    let truncation : Event := { kind := .truncation, dir := none, who := none, frame := some frame }
    let handle (n : Nat) : Handle := ⟨n, (s.slot n).gen⟩
    let own (n : Nat) : Bool := decide ((s.view n).seen = some (handle n))
    let seen (n : Nat) : Bool := own n && (s.view n).active
    let waited (n : Nat) (d : Direction) : Bool :=
      seen n && ((s.view n).grant.get d).isNone && decide (0 < (s.view n).backlog.get d)
    let starved (n : Nat) (u : Subscriber) (d : Direction) : Bool :=
      waited n d && decide (setup.starveLimit ≤ (u.service.get d).starve + 1)
    let short (n : Nat) (u : Subscriber) (d : Direction) : Bool :=
      let prof := s.profileCopy u.cls
      seen n && decide (prof.kind = .guaranteed ∧ 0 < prof.rate.get d
        ∧ 4 * ((prof.rate.get d : Nat) : Int) ≤ (u.service.get d).credit)
    let shortfall (n : Nat) (u : Subscriber) (d : Direction) : Bool :=
      short n u d && decide (setup.shortfallLimit ≤ (u.service.get d).shortfall + 1)
    let latches (n : Nat) (u : Subscriber) : Member → Bool
      | .starved d => starved n u d
      | .shortfall d => shortfall n u d
      | .lost => false
      | .linkPoor _ => false
    let payload (n : Nat) (d : Direction) : Nat :=
      if own n then (((s.view n).grant.get d).map GrantView.payload).getD 0 else 0
    let after (n : Nat) (u : Subscriber) (d : Direction) : Service :=
      let v := u.service.get d
      { v with
        avg := min 1048575 (v.avg - v.avg / 2 ^ setup.k + payload n d * 16 / 2 ^ setup.k)
        starve :=
          if seen n && ((s.view n).grant.get d).isSome then 0
          else if starved n u d then 0 else if waited n d then v.starve + 1 else v.starve
        shortfall :=
          if seen n then (if shortfall n u d then 0 else if short n u d then v.shortfall + 1 else 0)
          else v.shortfall }
    let notice (k : AlertKind) (h : Option Handle) (d : Option Direction) : GeneralNotice :=
      .alert { kind := k, handle := h, dir := d, frame := some frame }
    let slotNotices (n : Nat) : List GeneralNotice :=
      match (s.slot n).sub with
      | none => []
      | some u =>
        if u.life = .active then
          (([.starved .dl, .shortfall .dl, .starved .ul, .shortfall .ul] : List Member).filter fun m =>
              latches n u m && !u.hasMember m && !s.masked m.kind).map
            fun m => notice m.kind (some (handle n)) m.dir
        else []
    let timedOut : Bool := decide (s.ranker.cause = some .deadline)
    let offered : List GeneralNotice :=
      (List.range 96).flatMap slotNotices
        ++ if timedOut && !s.hasAlert .deadline && !s.masked (.device .deadline) then
            [notice (.device .deadline) none none]
          else []
    let room := 24 - s.notices.general.length
    ∃ x : State,
      s.complete
          = (x.takeEvents
              (unreached .dl ++ unreached .ul
                ++ if s.ranker.cause.isSome = true then [truncation] else [])).arbitrate
        ∧ x = { s with
                link := { s.link with alerts := x.link.alerts }
                slots := x.slots
                ranker := { s.ranker with stage := .idle, cause := none, timer := .idle }
                notices :=
                  { s.notices with
                    grants := x.notices.grants
                    general := x.notices.general }
                monitor :=
                  { s.monitor with
                    passes := s.monitor.passes + 1#32
                    dlTiles := s.monitor.dlTiles + BitVec.ofNat 32 s.placers.dl.tiles
                    ulTiles := s.monitor.ulTiles + BitVec.ofNat 32 s.placers.ul.tiles } }
        ∧ (∀ k, x.hasAlert k
            = (s.hasAlert k || (k == .deadline && timedOut)
                || (k == .noticeLost && decide (room < offered.length))))
        ∧ x.notices.general
            = s.notices.general ++ (offered.take room).map (fun n => ⟨n, .waiting⟩)
        ∧ x.notices.grants
            = s.notices.grants
              ++ [⟨.mapEnd
                    { frame := frame
                      cause :=
                        match s.ranker.cause with
                        | none => .complete
                        | some .deadline => .deadline
                        | some .preempted => .preempted
                        | some .stopped => .stopped
                      figures := ⟨figures .dl, figures .ul⟩
                      budget := s.ranker.allowance.budget
                      spent := s.dlSpent
                      segment := s.ranker.allowance.segment
                      carriers := s.ranker.allowance.carriers },
                  .waiting, s.ranker.passIndex⟩]
        ∧ (∀ n, (∀ u, (s.slot n).sub = some u → u.life ≠ .active) → x.slot n = s.slot n)
        ∧ ∀ n u, (s.slot n).sub = some u → u.life = .active →
            ∃ alerts,
              x.slot n
                  = { s.slot n with
                      sub :=
                        some
                          { u with
                            service := ⟨after n u .dl, after n u .ul⟩
                            alerts := alerts } }
                ∧ ∀ m, ({ u with alerts := alerts } : Subscriber).hasMember m
                    = (u.hasMember m || latches n u m)

/-- DEADLINE_EXPIRY (R96 to R98, R101): the running timer expires; with a cause standing nothing else changes;
in placement the cause becomes DEADLINE; in construction the pass is cut off and completes at once, with cause
DEADLINE, no grant, and every candidate of its lists unreached (`State.cutConstruction`, whose parts
PlacementBegins, ChunksFollowRecords and CompletionKeepsAccounts state: the allowance, the accounts, the alerts,
the UNREACHED and TRUNCATION events). That the lists then stand is the model's choice (log 24). A timer that does not run raises no expiry. The arbiter chooses at the end of each taking (log 6). -/
def Obligations.DeadlineExpires : Prop :=
  ∀ s : State, s.link.resetHeld = false →
    (s.ranker.timer ≠ .running → exec .deadlineExpiry s = .next s)
    ∧ (s.ranker.timer = .running →
        (s.ranker.cause.isSome = true →
          exec .deadlineExpiry s = .next { s with ranker := { s.ranker with timer := .expired } })
        ∧ (s.ranker.cause = none → s.ranker.stage = .placing →
            exec .deadlineExpiry s
              = .next
                  { s with ranker := { s.ranker with timer := .expired, cause := some .deadline } })
        ∧ (s.PassInv → s.ranker.stage = .constructing →
            let t := State.cutConstruction
              { s with ranker := { s.ranker with timer := .expired } } .deadline
            exec .deadlineExpiry s = .next t
              ∧ ∃ m : MapEnd,
              t.ranker.stage = .idle ∧ t.ranker.cause = none ∧ t.ranker.timer = .idle
              ∧ t.ranker.newest = s.ranker.newest ∧ t.ranker.passIndex = s.ranker.passIndex
              ∧ t.hasAlert .deadline = true
              ∧ t.monitor.passes = s.monitor.passes + 1#32
              ∧ t.offLine.notices.grants
                  = s.offLine.notices.grants ++ [⟨.mapEnd m, .waiting, s.ranker.passIndex⟩]
              ∧ m.cause = .deadline ∧ s.ranker.newest = some m.frame
              ∧ m.figures.dl.grants = 0 ∧ m.figures.ul.grants = 0
              ∧ m.figures.dl.unreached = s.ranker.lists.dl.length
              ∧ m.figures.ul.unreached = s.ranker.lists.ul.length))

/-! ### Device resets and frames -/

/-- The device resets (R163, R178, R179) and the part held in reset: each of the three ends in the reset
state, but for the straps and the rate they select; where its cause does not stand it changes nothing (log
1), and no other command changes the straps or the rate. The reset state holds what R17, R20, R40, R45, R77,
R108, R131, R143, R162 and R179 give each block. -/
def Obligations.DeviceResets : Prop :=
  (∀ (s : State) (b1 b0 : PinLevel),
    let fresh : State :=
      { State.reset with
        pending := s.pending
        draws := s.draws
        link :=
          { State.reset.link with
            baud1 := b1
            baud0 := b0
            lineRate := if b1 = .high then .mbaud12 else if b0 = .high then .mbaud6 else .mbaud3 } }
    let held := s.link.resetHeld = true
    exec (.powerOn b1 b0) s = .next (if held then s else fresh)
    ∧ exec (.resetLineRelease b1 b0) s = .next (if held then fresh else s)
    ∧ exec (.restartReset b1 b0) s
        = .next (if s.link.restart = .resetDue ∧ ¬held then fresh else s))
  ∧ (∀ s : State, s.link.resetHeld = false →
      ∃ t, exec .resetLineAssert s = .next t
        ∧ t.link.resetHeld = true ∧ t.link.tx = none ∧ t.alertLine = false
        ∧ ∀ b, exec (.receiveByte b) t = .next t)
  ∧ (let r := State.reset
     (r.link.rx = .hunt ∧ r.link.accepted = [] ∧ r.link.answers = [] ∧ r.link.decoding = .idle
        ∧ r.link.device = .config ∧ r.link.mask = 0#14)
     ∧ (∀ a, r.hasAlert a = true ↔ a = .restarted)
     ∧ r.notices.general.map GeneralEntry.notice
         = [.alert { kind := .device .restarted, handle := none, dir := none, frame := none }]
     ∧ r.alertLine = true
     ∧ (∀ n < 96, r.slot n = ⟨0#8, none⟩)
     ∧ r.rateTable
         = #v[⟨6, 8⟩, ⟨12, 16⟩, ⟨24, 24⟩, ⟨36, 32⟩, ⟨48, 40⟩, ⟨60, 48⟩, ⟨80, 56⟩, ⟨100, 64⟩,
             ⟨120, 72⟩, ⟨150, 84⟩, ⟨180, 96⟩, ⟨216, 108⟩]
     ∧ (∀ c, r.profile c
          = { kind := .bestEffort, weight := 4, rate := ⟨0, 0⟩, maxTiles := ⟨12, 12⟩, minTiles := 1
              poll := 0, defer := 1 })
     ∧ r.trackSetup
         = { bf := 2, bl := 7, settle := 4, tEnter := 12, tExit := 6, dEnter := 3, dExit := 3
             fadeTimeout := 60, dn := 16, up := 2, poorLimit := 8 }
     ∧ r.energy
         = { table :=
               { bounds := #v[200, 150, 100, 50], hysteresis := 8
                 budgets := #v[60000, 40000, 24000, 12000, 4000], carriers := #v[2, 2, 2, 1, 1]
                 slew := 2000, riseJump := false, fallJump := true, graded := false, lift := true }
             segment := 5, reading := none, age := 0, stale := false, active := 4000 }
     ∧ (r.ranker.stage = .idle ∧ r.ranker.newest = none ∧ r.ranker.passIndex = 0#32
        ∧ r.ranker.cause = none ∧ r.ranker.timer = .idle ∧ r.ranker.lists = ⟨[], []⟩)
     ∧ (∀ n, r.view n
          = { seen := none, active := false, backlog := ⟨0, 0⟩, grant := ⟨none, none⟩ })
     ∧ r.ranker.setup
         = { deadline := 800, k := 5, chunk := 8, guard := 130, staleLimit := 20, lostLimit := 400
             stalePenalty := 8, energyTimeout := 2000, starveLimit := 50, shortfallLimit := 100 }
     ∧ (∀ d, r.placers.get d
          = { stage := .idle, list := [], next := 1, carriers := 1, ptrCarrier := 0, ptrTile := 0
              pool := 0, grants := 0, tiles := 0, guards := 0, reached := 0 })
     ∧ (r.dlBudget = 0 ∧ r.dlSpent = 0)
     ∧ r.notices.grants = []
     ∧ (∀ d, (r.notices.assemblers.get d).stage = .idle ∧ (r.notices.assemblers.get d).pending = []
          ∧ (r.notices.assemblers.get d).seq = 0)
     ∧ r.monitor
         = { passes := 0#32, dlTiles := 0#32, ulTiles := 0#32
             monitors :=
               Vector.replicate 4
                 { enable := false, kind := .grant, filter := .both, classMask := 0xFF#8, who := none
                   v := 1#32, actions := ⟨false, false, false⟩, count := 0#32, overflow := false
                   armed := false }
             policy := .stop, threshold := 8, records := [], frozen := false, trace := [] })
  ∧ ∀ (c : Instr) (s t : State), exec c s = .next t →
      (∀ b1 b0, c ≠ .powerOn b1 b0 ∧ c ≠ .resetLineRelease b1 b0 ∧ c ≠ .restartReset b1 b0) →
      t.link.baud1 = s.link.baud1 ∧ t.link.baud0 = s.link.baud0 ∧ t.link.lineRate = s.link.lineRate

/-- The CRC and the frame of every message (R186): the register starts at 0xFFFF, takes each byte into its
high half and is stepped eight times with 0x1021; a frame is the sync pair, kind, tag, length, body and CRC;
the receiver accepts a frame exactly when its two CRC bytes are that CRC. And what the part puts into a frame
(chapter 10): an answer has its request's kind with the most significant bit set, its tag, the result, the
eleven bytes of the status summary and, with OK or PARTIAL, its data; a notice has its own kind and tag 0;
the data, records and notices are laid out as sections 10.4, 10.6 and 10.7 give, and the codes are those of
section 10.8. -/
def Obligations.FrameCarriesItsCrc : Prop :=
  let shift (r : U16) : U16 := if r.msb then (r <<< 1) ^^^ 0x1021#16 else r <<< 1
  let taken (r : U16) (b : Byte) : U16 :=
    shift (shift (shift (shift (shift (shift (shift (shift (r ^^^ (b ++ 0#8)))))))))
  (∀ bs : List Byte, crc bs = bs.foldl taken 0xFFFF#16)
  ∧ crc [0x31#8, 0x32#8, 0x33#8, 0x34#8, 0x35#8, 0x36#8, 0x37#8, 0x38#8, 0x39#8] = 0x29B1#16
  ∧ crc [] = 0xFFFF#16
  ∧ (∀ (kind tag : Byte) (body : List Byte),
      let covered :=
        kind :: tag :: BitVec.ofNat 8 (body.length / 256) :: BitVec.ofNat 8 body.length :: body
      ∃ hi lo : Byte, hi ++ lo = crc covered
        ∧ frameBytes kind tag body = 0xC3#8 :: 0x3C#8 :: covered ++ [hi, lo])
  ∧ (frameBytes 0x18#8 0x21#8 [0x04#8, 0xB0#8]).take 8
      = [0xC3#8, 0x3C#8, 0x18#8, 0x21#8, 0x00#8, 0x02#8, 0x04#8, 0xB0#8]
  ∧ (let one (n : Nat) : Byte := BitVec.ofNat 8 n
     let two (n : Nat) : List Byte := [one (n / 256), one n]
     let four (n : Nat) : List Byte := [one (n / 2 ^ 24), one (n / 2 ^ 16), one (n / 2 ^ 8), one n]
     let bit (i : Nat) (b : Bool) : Nat := if b = true then 2 ^ i else 0
     let handle (h : Handle) : List Byte := [one h.slot, h.gen]
     let handle? (h : Option Handle) : List Byte := (h.map handle).getD [0#8, 0#8]
     let word? (w : Option U16) : List Byte := two ((w.map BitVec.toNat).getD 0)
     let run (r : Run) : List Byte := [one r.carrier, one r.first, one r.count]
     let grant (g : GrantRecord) : List Byte :=
       handle g.handle ++ [one g.tier, one g.kind.code, one g.rateStep]
         ++ [one (bit 0 g.run2.isSome + bit 1 g.run1.guarded
              + bit 2 ((g.run2.map Run.guarded).getD false))]
         ++ run g.run1 ++ (g.run2.map run).getD [0#8, 0#8, 0#8] ++ two g.payload
     let figures (x : MapFigures) : List Byte :=
       [one x.grants, one x.tiles, one x.guards, one x.unreached]
     let monitor (m : Monitor) : List Byte :=
       [one (bit 0 m.enable), one m.kind.code, one m.filter.code, m.classMask, one (bit 0 m.who.isSome)]
         ++ handle? m.who ++ four m.v.toNat ++ [one m.actions.code] ++ four m.count.toNat
         ++ [one (bit 0 m.overflow + bit 1 m.armed)]
     let snapshot (c : CaptureSnapshot) : List Byte :=
       [one c.cls.val, one c.life.code, one c.rateStep] ++ two c.f ++ two c.l ++ [one c.fade.code]
         ++ two (c.offset % 65536).toNat ++ four c.backlog ++ four (c.credit % 2 ^ 32).toNat
         ++ four c.avg ++ [one c.segment] ++ two c.active
     let capture (c : CaptureRecord) : List Byte :=
       [one c.monitor, one c.kind.code,
           one (bit 0 c.frame.isSome + bit 1 c.dir.isSome + bit 2 c.handle.isSome
             + bit 3 c.snapshot.isSome)]
         ++ word? c.frame ++ [one ((c.dir.map dirCode).getD 0)] ++ handle? c.handle
         ++ (c.snapshot.map snapshot).getD (List.replicate 25 0#8)
     let traced (x : TraceEntry) : List Byte :=
       two x.frame.toNat ++ [one (dirCode x.dir)] ++ handle x.handle
         ++ [one x.result.code, one x.tiles, one x.tier]
     let history (e : HistoryEntry) : List Byte :=
       if e.written = true then
         [1#8] ++ two e.frame.toNat ++ [one e.kind.code, one e.tiles] ++ two e.served
           ++ [one e.outcome.code]
       else List.replicate 8 0#8
     let track (r : SubscriberRead) (d : Direction) : List Byte :=
       let t := r.sub.tracks.get d
       two t.f ++ two t.l ++ [one t.fade.code, one t.debounce, one t.fadeSamples, one t.settle]
         ++ two (t.offset % 65536).toNat ++ [one t.poor] ++ four (r.age.get d)
         ++ [one (bit 0 t.aRef.isSome)] ++ two (t.aRef.getD 0) ++ two (r.quality.get d)
         ++ [one (r.rateStep.get d)]
     let demand (g : Demand) : List Byte :=
       four g.backlog ++ [one (bit 0 g.stamp.isSome)] ++ word? g.stamp
         ++ history g.ring[0] ++ history g.ring[1] ++ history g.ring[2] ++ history g.ring[3]
     let service (v : Service) : List Byte :=
       four v.avg ++ four (v.credit % 2 ^ 32).toNat ++ [one v.starve, one v.shortfall]
         ++ [one (bit 0 v.lastGrant.isSome)] ++ four ((v.lastGrant.map BitVec.toNat).getD 0)
     (∀ a : Answer, ∃ data,
       answerFrame a
           = frameBytes (a.kind ||| 0x80#8) a.tag
               ([one a.result.code, if a.summary.device = .service then 1#8 else 0#8,
                   one (bit 0 a.summary.inFlight + bit 1 a.summary.newest.isSome
                     + bit 2 a.summary.subscriberAlert)]
                 ++ word? a.summary.newest ++ [one a.summary.segment, one a.summary.carriers]
                 ++ two a.summary.active ++ [one a.summary.live] ++ two a.summary.alerts.toNat ++ data)
         ∧ data
             = if a.result = .ok ∨ a.result = .partialBatch then
                 match a.data with
                 | .empty => []
                 | .admitted h => handle h
                 | .batch n refused =>
                   [one n, one refused.length]
                     ++ refused.flatMap fun x => [one x.index, one x.reason.code]
                 | .freeSlot n gen => [one n, gen, 0#8]
                 | .record r =>
                   handle r.handle ++ [one r.sub.life.code, one r.sub.cls.val] ++ two r.sub.dlCost
                     ++ [one r.sub.ulCap] ++ two r.sub.timing
                     ++ [one (bit 0 r.sub.anchor.isSome + bit 1 r.anchorLive)]
                     ++ handle? r.sub.anchor ++ [one r.sub.anchorWeight]
                     ++ four r.sub.admitIndex.toNat ++ [one r.sub.alerts.toNat]
                     ++ track r .dl ++ track r .ul ++ demand r.sub.demand.dl ++ demand r.sub.demand.ul
                     ++ service r.sub.service.dl ++ service r.sub.service.ul
                 | .counters c =>
                   four c.passes.toNat ++ four c.dlTiles.toNat ++ four c.ulTiles.toNat
                     ++ monitor c.monitors[0] ++ monitor c.monitors[1] ++ monitor c.monitors[2]
                     ++ monitor c.monitors[3]
                     ++ [one (bit 0 c.frozen), if c.policy = .wrap then 1#8 else 0#8, one c.threshold,
                         one c.held]
                 | .trace frozen es => [one (bit 0 frozen), one es.length] ++ es.flatMap traced
                 | .captures held rs => [one rs.length, one held] ++ rs.flatMap capture
               else [])
     ∧ (∀ c : GrantChunk,
         grantNoticeFrame (.chunk c)
           = frameBytes 0x60#8 0#8
               (two c.frame.toNat ++ [one (dirCode c.dir), one c.seq, one c.records.length]
                 ++ c.records.flatMap grant))
     ∧ (∀ m : MapEnd,
         grantNoticeFrame (.mapEnd m)
           = frameBytes 0x61#8 0#8
               (two m.frame.toNat ++ [one m.cause.code] ++ figures m.figures.dl
                 ++ figures m.figures.ul ++ two m.budget ++ two m.spent
                 ++ [one m.segment, one m.carriers]))
     ∧ (∀ a : AlertNotice,
         generalNoticeFrame (.alert a)
           = frameBytes 0x62#8 0#8
               ([one a.kind.code,
                   one (bit 0 a.handle.isSome + bit 1 a.dir.isSome + bit 2 a.frame.isSome)]
                 ++ handle? a.handle ++ [one ((a.dir.map dirCode).getD 0)] ++ word? a.frame))
     ∧ ∀ c : CaptureNotice,
         generalNoticeFrame (.capture c)
           = frameBytes 0x63#8 0#8 ([one c.held, one (bit 0 c.frame.isSome)] ++ word? c.frame))
  ∧ ([Result.ok, .partialBatch, .badLength, .badField, .unknownKind, .wrongState, .busy, .noSlot,
        .unknownHandle, .duplicateFrame, .outOfOrderFrame].map Result.code = List.range 11
      ∧ [Reason.unknownHandle, .stale, .future, .noGrant, .alreadyReported].map Reason.code
          = [1, 2, 3, 4, 5]
      ∧ [Direction.dl, .ul].map dirCode = [0, 1]
      ∧ [DirFilter.dl, .ul, .both].map DirFilter.code = [0, 1, 2]
      ∧ [Life.active, .suspended, .lost].map Life.code = [1, 2, 3]
      ∧ [FadeState.steady, .entering, .faded, .leaving].map FadeState.code = [0, 1, 2, 3]
      ∧ [GrantKind.data, .poll].map GrantKind.code = [0, 1]
      ∧ [DeliveryState.pending, .delivered, .failed].map DeliveryState.code = [0, 1, 2]
      ∧ [MapCause.complete, .deadline, .preempted, .stopped].map MapCause.code = [0, 1, 2, 3]
      ∧ [TraceResult.granted, .poll, .skipPower, .skipSliver, .skipGone].map TraceResult.code
          = [0, 1, 2, 3, 4]
      ∧ [EventKind.grant, .pollGrant, .skipPower, .skipSliver, .skipGone, .unreached, .truncation,
          .fadeEnter, .fadeReseed, .outcomeFailed, .reportStale, .lostEnter, .frameGap].map
            EventKind.code = List.range 13
      ∧ [AlertKind.device .restarted, .device .deadline, .device .energyStale, .device .monitorOverflow,
          .device .captureFull, .device .linkCrc, .device .linkFraming, .device .linkOverrun,
          .device .noticeLost, .device .mapPurged, .lost, .linkPoor, .starved, .shortfall].map
            AlertKind.code = List.range 14
      ∧ [Member.lost, .linkPoor .dl, .linkPoor .ul, .starved .dl, .starved .ul, .shortfall .dl,
          .shortfall .ul].map Member.bit = List.range 7
      ∧ ∀ a c f : Bool, Actions.code ⟨a, c, f⟩
          = (if a then 1 else 0) + (if c then 2 else 0) + (if f then 4 else 0))
  ∧ ∀ (s t : State) (kind tag hi lo : Byte) (got : List Byte), s.Hears →
      s.link.rx = .check kind tag got (some hi) → exec (.receiveByte lo) s = .next t →
      (t.link.accepted = s.link.accepted ++ [⟨kind, tag, got⟩] ↔
        hi ++ lo
          = crc (kind :: tag :: BitVec.ofNat 8 (got.length / 256) :: BitVec.ofNat 8 got.length :: got))

/-! ### Invariants -/

/-- Every step keeps what holds of a pass in flight and of the device that has none. -/
def Obligations.PassInvariantKept : Prop :=
  ∀ s t : State, s.PassInv → step s = .next t → t.PassInv

/-- Every step keeps the agreement of the line with the message sources, and the answer queue and the general
section within their capacities. -/
def Obligations.LineInvariantKept : Prop :=
  ∀ s t : State, s.LineInv → step s = .next t → t.LineInv

/-- Every step keeps the grant section free of another pass's waiting traffic and within the 98 entries of
R140, and every candidate in its ranges, and the Placers on their lines and within their budget. The line, the
pass and the tables are as their own invariants say. -/
def Obligations.GrantAndPlacementInvariantKept : Prop :=
  ∀ s t : State, s.LineInv → s.PassInv → s.TablesInv → s.GrantInv → s.PlacementInv →
    step s = .next t → t.GrantInv ∧ t.PlacementInv

/-- Every step keeps the records, tables, setups, energy figures, monitor stores and the inbound buffer
within the ranges and capacities the manual gives them, and PASSES in step with the pass index. The candidates
and the Placers are as their own invariant says. -/
def Obligations.RangesKept : Prop :=
  ∀ s t : State, s.PlacementInv → s.RecordInv → s.TablesInv → s.EnergyInv → s.MonitorInv → s.InboundInv →
    step s = .next t → t.RecordInv ∧ t.TablesInv ∧ t.EnergyInv ∧ t.MonitorInv ∧ t.InboundInv

/-- Every invariant holds of the state after reset. -/
def Obligations.InvariantsHoldAtReset : Prop :=
  let r := State.reset
  r.PassInv ∧ r.LineInv ∧ r.GrantInv ∧ r.PlacementInv ∧ r.RecordInv ∧ r.TablesInv ∧ r.EnergyInv
    ∧ r.MonitorInv ∧ r.InboundInv

end
end

