-- ==== Sys2Proof/Laws/State.lean ====
section
/-! SUPPORT. One lemma per field for every plain update of the state, true by unfolding, so that no later
proof opens a record update. -/

namespace Sys2Proof.Machine

/-! ### State.withPending -/

@[simp] theorem State.withPending_pending (s : State) (cs : List Instr) :
    (s.withPending cs).pending = cs := rfl
@[simp] theorem State.withPending_link (s : State) (cs : List Instr) :
    (s.withPending cs).link = s.link := rfl
@[simp] theorem State.withPending_slots (s : State) (cs : List Instr) :
    (s.withPending cs).slots = s.slots := rfl
@[simp] theorem State.withPending_profiles (s : State) (cs : List Instr) :
    (s.withPending cs).profiles = s.profiles := rfl
@[simp] theorem State.withPending_rateTable (s : State) (cs : List Instr) :
    (s.withPending cs).rateTable = s.rateTable := rfl
@[simp] theorem State.withPending_trackSetup (s : State) (cs : List Instr) :
    (s.withPending cs).trackSetup = s.trackSetup := rfl
@[simp] theorem State.withPending_energy (s : State) (cs : List Instr) :
    (s.withPending cs).energy = s.energy := rfl
@[simp] theorem State.withPending_ranker (s : State) (cs : List Instr) :
    (s.withPending cs).ranker = s.ranker := rfl
@[simp] theorem State.withPending_placers (s : State) (cs : List Instr) :
    (s.withPending cs).placers = s.placers := rfl
@[simp] theorem State.withPending_dlBudget (s : State) (cs : List Instr) :
    (s.withPending cs).dlBudget = s.dlBudget := rfl
@[simp] theorem State.withPending_dlSpent (s : State) (cs : List Instr) :
    (s.withPending cs).dlSpent = s.dlSpent := rfl
@[simp] theorem State.withPending_notices (s : State) (cs : List Instr) :
    (s.withPending cs).notices = s.notices := rfl
@[simp] theorem State.withPending_monitor (s : State) (cs : List Instr) :
    (s.withPending cs).monitor = s.monitor := rfl
@[simp] theorem State.withPending_draws (s : State) (cs : List Instr) :
    (s.withPending cs).draws = s.draws := rfl

/-! ### State.putSlot -/

@[simp] theorem State.putSlot_pending (s : State) (n : Nat) (x : Slot) :
    (s.putSlot n x).pending = s.pending := rfl
@[simp] theorem State.putSlot_link (s : State) (n : Nat) (x : Slot) :
    (s.putSlot n x).link = s.link := rfl
@[simp] theorem State.putSlot_slots (s : State) (n : Nat) (x : Slot) :
    (s.putSlot n x).slots = s.slots.setIfInBounds n x := rfl
@[simp] theorem State.putSlot_profiles (s : State) (n : Nat) (x : Slot) :
    (s.putSlot n x).profiles = s.profiles := rfl
@[simp] theorem State.putSlot_rateTable (s : State) (n : Nat) (x : Slot) :
    (s.putSlot n x).rateTable = s.rateTable := rfl
@[simp] theorem State.putSlot_trackSetup (s : State) (n : Nat) (x : Slot) :
    (s.putSlot n x).trackSetup = s.trackSetup := rfl
@[simp] theorem State.putSlot_energy (s : State) (n : Nat) (x : Slot) :
    (s.putSlot n x).energy = s.energy := rfl
@[simp] theorem State.putSlot_ranker (s : State) (n : Nat) (x : Slot) :
    (s.putSlot n x).ranker = s.ranker := rfl
@[simp] theorem State.putSlot_placers (s : State) (n : Nat) (x : Slot) :
    (s.putSlot n x).placers = s.placers := rfl
@[simp] theorem State.putSlot_dlBudget (s : State) (n : Nat) (x : Slot) :
    (s.putSlot n x).dlBudget = s.dlBudget := rfl
@[simp] theorem State.putSlot_dlSpent (s : State) (n : Nat) (x : Slot) :
    (s.putSlot n x).dlSpent = s.dlSpent := rfl
@[simp] theorem State.putSlot_notices (s : State) (n : Nat) (x : Slot) :
    (s.putSlot n x).notices = s.notices := rfl
@[simp] theorem State.putSlot_monitor (s : State) (n : Nat) (x : Slot) :
    (s.putSlot n x).monitor = s.monitor := rfl
@[simp] theorem State.putSlot_draws (s : State) (n : Nat) (x : Slot) :
    (s.putSlot n x).draws = s.draws := rfl

/-! ### State.putSub -/

@[simp] theorem State.putSub_pending (s : State) (n : Nat) (u : Subscriber) :
    (s.putSub n u).pending = s.pending := rfl
@[simp] theorem State.putSub_link (s : State) (n : Nat) (u : Subscriber) :
    (s.putSub n u).link = s.link := rfl
@[simp] theorem State.putSub_slots (s : State) (n : Nat) (u : Subscriber) :
    (s.putSub n u).slots = s.slots.setIfInBounds n { s.slot n with sub := some u } := rfl
@[simp] theorem State.putSub_profiles (s : State) (n : Nat) (u : Subscriber) :
    (s.putSub n u).profiles = s.profiles := rfl
@[simp] theorem State.putSub_rateTable (s : State) (n : Nat) (u : Subscriber) :
    (s.putSub n u).rateTable = s.rateTable := rfl
@[simp] theorem State.putSub_trackSetup (s : State) (n : Nat) (u : Subscriber) :
    (s.putSub n u).trackSetup = s.trackSetup := rfl
@[simp] theorem State.putSub_energy (s : State) (n : Nat) (u : Subscriber) :
    (s.putSub n u).energy = s.energy := rfl
@[simp] theorem State.putSub_ranker (s : State) (n : Nat) (u : Subscriber) :
    (s.putSub n u).ranker = s.ranker := rfl
@[simp] theorem State.putSub_placers (s : State) (n : Nat) (u : Subscriber) :
    (s.putSub n u).placers = s.placers := rfl
@[simp] theorem State.putSub_dlBudget (s : State) (n : Nat) (u : Subscriber) :
    (s.putSub n u).dlBudget = s.dlBudget := rfl
@[simp] theorem State.putSub_dlSpent (s : State) (n : Nat) (u : Subscriber) :
    (s.putSub n u).dlSpent = s.dlSpent := rfl
@[simp] theorem State.putSub_notices (s : State) (n : Nat) (u : Subscriber) :
    (s.putSub n u).notices = s.notices := rfl
@[simp] theorem State.putSub_monitor (s : State) (n : Nat) (u : Subscriber) :
    (s.putSub n u).monitor = s.monitor := rfl
@[simp] theorem State.putSub_draws (s : State) (n : Nat) (u : Subscriber) :
    (s.putSub n u).draws = s.draws := rfl

/-! ### State.mapSubs -/

@[simp] theorem State.mapSubs_pending (s : State) (f : Subscriber → Subscriber) :
    (s.mapSubs f).pending = s.pending := rfl
@[simp] theorem State.mapSubs_link (s : State) (f : Subscriber → Subscriber) :
    (s.mapSubs f).link = s.link := rfl
@[simp] theorem State.mapSubs_slots (s : State) (f : Subscriber → Subscriber) :
    (s.mapSubs f).slots = s.slots.map fun x => { x with sub := x.sub.map f } := rfl
@[simp] theorem State.mapSubs_profiles (s : State) (f : Subscriber → Subscriber) :
    (s.mapSubs f).profiles = s.profiles := rfl
@[simp] theorem State.mapSubs_rateTable (s : State) (f : Subscriber → Subscriber) :
    (s.mapSubs f).rateTable = s.rateTable := rfl
@[simp] theorem State.mapSubs_trackSetup (s : State) (f : Subscriber → Subscriber) :
    (s.mapSubs f).trackSetup = s.trackSetup := rfl
@[simp] theorem State.mapSubs_energy (s : State) (f : Subscriber → Subscriber) :
    (s.mapSubs f).energy = s.energy := rfl
@[simp] theorem State.mapSubs_ranker (s : State) (f : Subscriber → Subscriber) :
    (s.mapSubs f).ranker = s.ranker := rfl
@[simp] theorem State.mapSubs_placers (s : State) (f : Subscriber → Subscriber) :
    (s.mapSubs f).placers = s.placers := rfl
@[simp] theorem State.mapSubs_dlBudget (s : State) (f : Subscriber → Subscriber) :
    (s.mapSubs f).dlBudget = s.dlBudget := rfl
@[simp] theorem State.mapSubs_dlSpent (s : State) (f : Subscriber → Subscriber) :
    (s.mapSubs f).dlSpent = s.dlSpent := rfl
@[simp] theorem State.mapSubs_notices (s : State) (f : Subscriber → Subscriber) :
    (s.mapSubs f).notices = s.notices := rfl
@[simp] theorem State.mapSubs_monitor (s : State) (f : Subscriber → Subscriber) :
    (s.mapSubs f).monitor = s.monitor := rfl
@[simp] theorem State.mapSubs_draws (s : State) (f : Subscriber → Subscriber) :
    (s.mapSubs f).draws = s.draws := rfl

/-! ### State.setAlert -/

@[simp] theorem State.setAlert_pending (s : State) (a : DeviceAlert) :
    (s.setAlert a).pending = s.pending := rfl
@[simp] theorem State.setAlert_link (s : State) (a : DeviceAlert) :
    (s.setAlert a).link = { s.link with alerts := addBit s.link.alerts a.code } := rfl
@[simp] theorem State.setAlert_slots (s : State) (a : DeviceAlert) :
    (s.setAlert a).slots = s.slots := rfl
@[simp] theorem State.setAlert_profiles (s : State) (a : DeviceAlert) :
    (s.setAlert a).profiles = s.profiles := rfl
@[simp] theorem State.setAlert_rateTable (s : State) (a : DeviceAlert) :
    (s.setAlert a).rateTable = s.rateTable := rfl
@[simp] theorem State.setAlert_trackSetup (s : State) (a : DeviceAlert) :
    (s.setAlert a).trackSetup = s.trackSetup := rfl
@[simp] theorem State.setAlert_energy (s : State) (a : DeviceAlert) :
    (s.setAlert a).energy = s.energy := rfl
@[simp] theorem State.setAlert_ranker (s : State) (a : DeviceAlert) :
    (s.setAlert a).ranker = s.ranker := rfl
@[simp] theorem State.setAlert_placers (s : State) (a : DeviceAlert) :
    (s.setAlert a).placers = s.placers := rfl
@[simp] theorem State.setAlert_dlBudget (s : State) (a : DeviceAlert) :
    (s.setAlert a).dlBudget = s.dlBudget := rfl
@[simp] theorem State.setAlert_dlSpent (s : State) (a : DeviceAlert) :
    (s.setAlert a).dlSpent = s.dlSpent := rfl
@[simp] theorem State.setAlert_notices (s : State) (a : DeviceAlert) :
    (s.setAlert a).notices = s.notices := rfl
@[simp] theorem State.setAlert_monitor (s : State) (a : DeviceAlert) :
    (s.setAlert a).monitor = s.monitor := rfl
@[simp] theorem State.setAlert_draws (s : State) (a : DeviceAlert) :
    (s.setAlert a).draws = s.draws := rfl

/-! ### State.putRx -/

@[simp] theorem State.putRx_pending (s : State) (r : Receiver) :
    (s.putRx r).pending = s.pending := rfl
@[simp] theorem State.putRx_link (s : State) (r : Receiver) :
    (s.putRx r).link = { s.link with rx := r } := rfl
@[simp] theorem State.putRx_slots (s : State) (r : Receiver) : (s.putRx r).slots = s.slots := rfl
@[simp] theorem State.putRx_profiles (s : State) (r : Receiver) :
    (s.putRx r).profiles = s.profiles := rfl
@[simp] theorem State.putRx_rateTable (s : State) (r : Receiver) :
    (s.putRx r).rateTable = s.rateTable := rfl
@[simp] theorem State.putRx_trackSetup (s : State) (r : Receiver) :
    (s.putRx r).trackSetup = s.trackSetup := rfl
@[simp] theorem State.putRx_energy (s : State) (r : Receiver) : (s.putRx r).energy = s.energy := rfl
@[simp] theorem State.putRx_ranker (s : State) (r : Receiver) : (s.putRx r).ranker = s.ranker := rfl
@[simp] theorem State.putRx_placers (s : State) (r : Receiver) :
    (s.putRx r).placers = s.placers := rfl
@[simp] theorem State.putRx_dlBudget (s : State) (r : Receiver) :
    (s.putRx r).dlBudget = s.dlBudget := rfl
@[simp] theorem State.putRx_dlSpent (s : State) (r : Receiver) :
    (s.putRx r).dlSpent = s.dlSpent := rfl
@[simp] theorem State.putRx_notices (s : State) (r : Receiver) :
    (s.putRx r).notices = s.notices := rfl
@[simp] theorem State.putRx_monitor (s : State) (r : Receiver) :
    (s.putRx r).monitor = s.monitor := rfl
@[simp] theorem State.putRx_draws (s : State) (r : Receiver) : (s.putRx r).draws = s.draws := rfl

/-! ### State.putRecords -/

@[simp] theorem State.putRecords_pending (s : State) (rs : List CaptureRecord) :
    (s.putRecords rs).pending = s.pending := rfl
@[simp] theorem State.putRecords_link (s : State) (rs : List CaptureRecord) :
    (s.putRecords rs).link = s.link := rfl
@[simp] theorem State.putRecords_slots (s : State) (rs : List CaptureRecord) :
    (s.putRecords rs).slots = s.slots := rfl
@[simp] theorem State.putRecords_profiles (s : State) (rs : List CaptureRecord) :
    (s.putRecords rs).profiles = s.profiles := rfl
@[simp] theorem State.putRecords_rateTable (s : State) (rs : List CaptureRecord) :
    (s.putRecords rs).rateTable = s.rateTable := rfl
@[simp] theorem State.putRecords_trackSetup (s : State) (rs : List CaptureRecord) :
    (s.putRecords rs).trackSetup = s.trackSetup := rfl
@[simp] theorem State.putRecords_energy (s : State) (rs : List CaptureRecord) :
    (s.putRecords rs).energy = s.energy := rfl
@[simp] theorem State.putRecords_ranker (s : State) (rs : List CaptureRecord) :
    (s.putRecords rs).ranker = s.ranker := rfl
@[simp] theorem State.putRecords_placers (s : State) (rs : List CaptureRecord) :
    (s.putRecords rs).placers = s.placers := rfl
@[simp] theorem State.putRecords_dlBudget (s : State) (rs : List CaptureRecord) :
    (s.putRecords rs).dlBudget = s.dlBudget := rfl
@[simp] theorem State.putRecords_dlSpent (s : State) (rs : List CaptureRecord) :
    (s.putRecords rs).dlSpent = s.dlSpent := rfl
@[simp] theorem State.putRecords_notices (s : State) (rs : List CaptureRecord) :
    (s.putRecords rs).notices = s.notices := rfl
@[simp] theorem State.putRecords_monitor (s : State) (rs : List CaptureRecord) :
    (s.putRecords rs).monitor = { s.monitor with records := rs } := rfl
@[simp] theorem State.putRecords_draws (s : State) (rs : List CaptureRecord) :
    (s.putRecords rs).draws = s.draws := rfl

/-! ### State.putMonitor -/

@[simp] theorem State.putMonitor_pending (s : State) (i : Fin 4) (m : Monitor) :
    (s.putMonitor i m).pending = s.pending := rfl
@[simp] theorem State.putMonitor_link (s : State) (i : Fin 4) (m : Monitor) :
    (s.putMonitor i m).link = s.link := rfl
@[simp] theorem State.putMonitor_slots (s : State) (i : Fin 4) (m : Monitor) :
    (s.putMonitor i m).slots = s.slots := rfl
@[simp] theorem State.putMonitor_profiles (s : State) (i : Fin 4) (m : Monitor) :
    (s.putMonitor i m).profiles = s.profiles := rfl
@[simp] theorem State.putMonitor_rateTable (s : State) (i : Fin 4) (m : Monitor) :
    (s.putMonitor i m).rateTable = s.rateTable := rfl
@[simp] theorem State.putMonitor_trackSetup (s : State) (i : Fin 4) (m : Monitor) :
    (s.putMonitor i m).trackSetup = s.trackSetup := rfl
@[simp] theorem State.putMonitor_energy (s : State) (i : Fin 4) (m : Monitor) :
    (s.putMonitor i m).energy = s.energy := rfl
@[simp] theorem State.putMonitor_ranker (s : State) (i : Fin 4) (m : Monitor) :
    (s.putMonitor i m).ranker = s.ranker := rfl
@[simp] theorem State.putMonitor_placers (s : State) (i : Fin 4) (m : Monitor) :
    (s.putMonitor i m).placers = s.placers := rfl
@[simp] theorem State.putMonitor_dlBudget (s : State) (i : Fin 4) (m : Monitor) :
    (s.putMonitor i m).dlBudget = s.dlBudget := rfl
@[simp] theorem State.putMonitor_dlSpent (s : State) (i : Fin 4) (m : Monitor) :
    (s.putMonitor i m).dlSpent = s.dlSpent := rfl
@[simp] theorem State.putMonitor_notices (s : State) (i : Fin 4) (m : Monitor) :
    (s.putMonitor i m).notices = s.notices := rfl
@[simp] theorem State.putMonitor_monitor (s : State) (i : Fin 4) (m : Monitor) :
    (s.putMonitor i m).monitor = { s.monitor with monitors := s.monitor.monitors.set i m } := rfl
@[simp] theorem State.putMonitor_draws (s : State) (i : Fin 4) (m : Monitor) :
    (s.putMonitor i m).draws = s.draws := rfl

/-! ### State.freeze -/

@[simp] theorem State.freeze_pending (s : State) : (s.freeze).pending = s.pending := rfl
@[simp] theorem State.freeze_link (s : State) : (s.freeze).link = s.link := rfl
@[simp] theorem State.freeze_slots (s : State) : (s.freeze).slots = s.slots := rfl
@[simp] theorem State.freeze_profiles (s : State) : (s.freeze).profiles = s.profiles := rfl
@[simp] theorem State.freeze_rateTable (s : State) : (s.freeze).rateTable = s.rateTable := rfl
@[simp] theorem State.freeze_trackSetup (s : State) : (s.freeze).trackSetup = s.trackSetup := rfl
@[simp] theorem State.freeze_energy (s : State) : (s.freeze).energy = s.energy := rfl
@[simp] theorem State.freeze_ranker (s : State) : (s.freeze).ranker = s.ranker := rfl
@[simp] theorem State.freeze_placers (s : State) : (s.freeze).placers = s.placers := rfl
@[simp] theorem State.freeze_dlBudget (s : State) : (s.freeze).dlBudget = s.dlBudget := rfl
@[simp] theorem State.freeze_dlSpent (s : State) : (s.freeze).dlSpent = s.dlSpent := rfl
@[simp] theorem State.freeze_notices (s : State) : (s.freeze).notices = s.notices := rfl
@[simp] theorem State.freeze_monitor (s : State) :
    (s.freeze).monitor = { s.monitor with
      monitors := s.monitor.monitors.map fun m => { m with enable := false }, frozen := true } := rfl
@[simp] theorem State.freeze_draws (s : State) : (s.freeze).draws = s.draws := rfl

/-! ### State.clearOverflows -/

@[simp] theorem State.clearOverflows_pending (s : State) :
    (s.clearOverflows).pending = s.pending := rfl
@[simp] theorem State.clearOverflows_link (s : State) : (s.clearOverflows).link = s.link := rfl
@[simp] theorem State.clearOverflows_slots (s : State) : (s.clearOverflows).slots = s.slots := rfl
@[simp] theorem State.clearOverflows_profiles (s : State) :
    (s.clearOverflows).profiles = s.profiles := rfl
@[simp] theorem State.clearOverflows_rateTable (s : State) :
    (s.clearOverflows).rateTable = s.rateTable := rfl
@[simp] theorem State.clearOverflows_trackSetup (s : State) :
    (s.clearOverflows).trackSetup = s.trackSetup := rfl
@[simp] theorem State.clearOverflows_energy (s : State) :
    (s.clearOverflows).energy = s.energy := rfl
@[simp] theorem State.clearOverflows_ranker (s : State) :
    (s.clearOverflows).ranker = s.ranker := rfl
@[simp] theorem State.clearOverflows_placers (s : State) :
    (s.clearOverflows).placers = s.placers := rfl
@[simp] theorem State.clearOverflows_dlBudget (s : State) :
    (s.clearOverflows).dlBudget = s.dlBudget := rfl
@[simp] theorem State.clearOverflows_dlSpent (s : State) :
    (s.clearOverflows).dlSpent = s.dlSpent := rfl
@[simp] theorem State.clearOverflows_notices (s : State) :
    (s.clearOverflows).notices = s.notices := rfl
@[simp] theorem State.clearOverflows_monitor (s : State) :
    (s.clearOverflows).monitor = { s.monitor with
      monitors := s.monitor.monitors.map fun m => { m with overflow := false } } := rfl
@[simp] theorem State.clearOverflows_draws (s : State) : (s.clearOverflows).draws = s.draws := rfl

/-! ### State.putView -/

@[simp] theorem State.putView_pending (s : State) (n : Nat) (v : SlotView) :
    (s.putView n v).pending = s.pending := rfl
@[simp] theorem State.putView_link (s : State) (n : Nat) (v : SlotView) :
    (s.putView n v).link = s.link := rfl
@[simp] theorem State.putView_slots (s : State) (n : Nat) (v : SlotView) :
    (s.putView n v).slots = s.slots := rfl
@[simp] theorem State.putView_profiles (s : State) (n : Nat) (v : SlotView) :
    (s.putView n v).profiles = s.profiles := rfl
@[simp] theorem State.putView_rateTable (s : State) (n : Nat) (v : SlotView) :
    (s.putView n v).rateTable = s.rateTable := rfl
@[simp] theorem State.putView_trackSetup (s : State) (n : Nat) (v : SlotView) :
    (s.putView n v).trackSetup = s.trackSetup := rfl
@[simp] theorem State.putView_energy (s : State) (n : Nat) (v : SlotView) :
    (s.putView n v).energy = s.energy := rfl
@[simp] theorem State.putView_ranker (s : State) (n : Nat) (v : SlotView) :
    (s.putView n v).ranker = { s.ranker with views := s.ranker.views.setIfInBounds n v } := rfl
@[simp] theorem State.putView_placers (s : State) (n : Nat) (v : SlotView) :
    (s.putView n v).placers = s.placers := rfl
@[simp] theorem State.putView_dlBudget (s : State) (n : Nat) (v : SlotView) :
    (s.putView n v).dlBudget = s.dlBudget := rfl
@[simp] theorem State.putView_dlSpent (s : State) (n : Nat) (v : SlotView) :
    (s.putView n v).dlSpent = s.dlSpent := rfl
@[simp] theorem State.putView_notices (s : State) (n : Nat) (v : SlotView) :
    (s.putView n v).notices = s.notices := rfl
@[simp] theorem State.putView_monitor (s : State) (n : Nat) (v : SlotView) :
    (s.putView n v).monitor = s.monitor := rfl
@[simp] theorem State.putView_draws (s : State) (n : Nat) (v : SlotView) :
    (s.putView n v).draws = s.draws := rfl

/-! ### State.addCandidates -/

@[simp] theorem State.addCandidates_pending (s : State) (a b : List Candidate) :
    (s.addCandidates a b).pending = s.pending := rfl
@[simp] theorem State.addCandidates_link (s : State) (a b : List Candidate) :
    (s.addCandidates a b).link = s.link := rfl
@[simp] theorem State.addCandidates_slots (s : State) (a b : List Candidate) :
    (s.addCandidates a b).slots = s.slots := rfl
@[simp] theorem State.addCandidates_profiles (s : State) (a b : List Candidate) :
    (s.addCandidates a b).profiles = s.profiles := rfl
@[simp] theorem State.addCandidates_rateTable (s : State) (a b : List Candidate) :
    (s.addCandidates a b).rateTable = s.rateTable := rfl
@[simp] theorem State.addCandidates_trackSetup (s : State) (a b : List Candidate) :
    (s.addCandidates a b).trackSetup = s.trackSetup := rfl
@[simp] theorem State.addCandidates_energy (s : State) (a b : List Candidate) :
    (s.addCandidates a b).energy = s.energy := rfl
@[simp] theorem State.addCandidates_ranker (s : State) (a b : List Candidate) :
    (s.addCandidates a b).ranker = { s.ranker with lists := ⟨s.ranker.lists.dl ++ a, s.ranker.lists.ul ++ b⟩ } := rfl
@[simp] theorem State.addCandidates_placers (s : State) (a b : List Candidate) :
    (s.addCandidates a b).placers = s.placers := rfl
@[simp] theorem State.addCandidates_dlBudget (s : State) (a b : List Candidate) :
    (s.addCandidates a b).dlBudget = s.dlBudget := rfl
@[simp] theorem State.addCandidates_dlSpent (s : State) (a b : List Candidate) :
    (s.addCandidates a b).dlSpent = s.dlSpent := rfl
@[simp] theorem State.addCandidates_notices (s : State) (a b : List Candidate) :
    (s.addCandidates a b).notices = s.notices := rfl
@[simp] theorem State.addCandidates_monitor (s : State) (a b : List Candidate) :
    (s.addCandidates a b).monitor = s.monitor := rfl
@[simp] theorem State.addCandidates_draws (s : State) (a b : List Candidate) :
    (s.addCandidates a b).draws = s.draws := rfl

/-! ### State.queueGrant -/

@[simp] theorem State.queueGrant_pending (s : State) (n : GrantNotice) (p : U32) :
    (s.queueGrant n p).pending = s.pending := rfl
@[simp] theorem State.queueGrant_link (s : State) (n : GrantNotice) (p : U32) :
    (s.queueGrant n p).link = s.link := rfl
@[simp] theorem State.queueGrant_slots (s : State) (n : GrantNotice) (p : U32) :
    (s.queueGrant n p).slots = s.slots := rfl
@[simp] theorem State.queueGrant_profiles (s : State) (n : GrantNotice) (p : U32) :
    (s.queueGrant n p).profiles = s.profiles := rfl
@[simp] theorem State.queueGrant_rateTable (s : State) (n : GrantNotice) (p : U32) :
    (s.queueGrant n p).rateTable = s.rateTable := rfl
@[simp] theorem State.queueGrant_trackSetup (s : State) (n : GrantNotice) (p : U32) :
    (s.queueGrant n p).trackSetup = s.trackSetup := rfl
@[simp] theorem State.queueGrant_energy (s : State) (n : GrantNotice) (p : U32) :
    (s.queueGrant n p).energy = s.energy := rfl
@[simp] theorem State.queueGrant_ranker (s : State) (n : GrantNotice) (p : U32) :
    (s.queueGrant n p).ranker = s.ranker := rfl
@[simp] theorem State.queueGrant_placers (s : State) (n : GrantNotice) (p : U32) :
    (s.queueGrant n p).placers = s.placers := rfl
@[simp] theorem State.queueGrant_dlBudget (s : State) (n : GrantNotice) (p : U32) :
    (s.queueGrant n p).dlBudget = s.dlBudget := rfl
@[simp] theorem State.queueGrant_dlSpent (s : State) (n : GrantNotice) (p : U32) :
    (s.queueGrant n p).dlSpent = s.dlSpent := rfl
@[simp] theorem State.queueGrant_notices (s : State) (n : GrantNotice) (p : U32) :
    (s.queueGrant n p).notices = { s.notices with grants := s.notices.grants ++ [⟨n, .waiting, p⟩] } := rfl
@[simp] theorem State.queueGrant_monitor (s : State) (n : GrantNotice) (p : U32) :
    (s.queueGrant n p).monitor = s.monitor := rfl
@[simp] theorem State.queueGrant_draws (s : State) (n : GrantNotice) (p : U32) :
    (s.queueGrant n p).draws = s.draws := rfl

/-! ### State.putAssembler -/

@[simp] theorem State.putAssembler_pending (s : State) (d : Direction) (a : Assembler) :
    (s.putAssembler d a).pending = s.pending := rfl
@[simp] theorem State.putAssembler_link (s : State) (d : Direction) (a : Assembler) :
    (s.putAssembler d a).link = s.link := rfl
@[simp] theorem State.putAssembler_slots (s : State) (d : Direction) (a : Assembler) :
    (s.putAssembler d a).slots = s.slots := rfl
@[simp] theorem State.putAssembler_profiles (s : State) (d : Direction) (a : Assembler) :
    (s.putAssembler d a).profiles = s.profiles := rfl
@[simp] theorem State.putAssembler_rateTable (s : State) (d : Direction) (a : Assembler) :
    (s.putAssembler d a).rateTable = s.rateTable := rfl
@[simp] theorem State.putAssembler_trackSetup (s : State) (d : Direction) (a : Assembler) :
    (s.putAssembler d a).trackSetup = s.trackSetup := rfl
@[simp] theorem State.putAssembler_energy (s : State) (d : Direction) (a : Assembler) :
    (s.putAssembler d a).energy = s.energy := rfl
@[simp] theorem State.putAssembler_ranker (s : State) (d : Direction) (a : Assembler) :
    (s.putAssembler d a).ranker = s.ranker := rfl
@[simp] theorem State.putAssembler_placers (s : State) (d : Direction) (a : Assembler) :
    (s.putAssembler d a).placers = s.placers := rfl
@[simp] theorem State.putAssembler_dlBudget (s : State) (d : Direction) (a : Assembler) :
    (s.putAssembler d a).dlBudget = s.dlBudget := rfl
@[simp] theorem State.putAssembler_dlSpent (s : State) (d : Direction) (a : Assembler) :
    (s.putAssembler d a).dlSpent = s.dlSpent := rfl
@[simp] theorem State.putAssembler_notices (s : State) (d : Direction) (a : Assembler) :
    (s.putAssembler d a).notices = { s.notices with assemblers := s.notices.assemblers.put d a } := rfl
@[simp] theorem State.putAssembler_monitor (s : State) (d : Direction) (a : Assembler) :
    (s.putAssembler d a).monitor = s.monitor := rfl
@[simp] theorem State.putAssembler_draws (s : State) (d : Direction) (a : Assembler) :
    (s.putAssembler d a).draws = s.draws := rfl

/-! ### State.putPlacer -/

@[simp] theorem State.putPlacer_pending (s : State) (d : Direction) (p : Placer) :
    (s.putPlacer d p).pending = s.pending := rfl
@[simp] theorem State.putPlacer_link (s : State) (d : Direction) (p : Placer) :
    (s.putPlacer d p).link = s.link := rfl
@[simp] theorem State.putPlacer_slots (s : State) (d : Direction) (p : Placer) :
    (s.putPlacer d p).slots = s.slots := rfl
@[simp] theorem State.putPlacer_profiles (s : State) (d : Direction) (p : Placer) :
    (s.putPlacer d p).profiles = s.profiles := rfl
@[simp] theorem State.putPlacer_rateTable (s : State) (d : Direction) (p : Placer) :
    (s.putPlacer d p).rateTable = s.rateTable := rfl
@[simp] theorem State.putPlacer_trackSetup (s : State) (d : Direction) (p : Placer) :
    (s.putPlacer d p).trackSetup = s.trackSetup := rfl
@[simp] theorem State.putPlacer_energy (s : State) (d : Direction) (p : Placer) :
    (s.putPlacer d p).energy = s.energy := rfl
@[simp] theorem State.putPlacer_ranker (s : State) (d : Direction) (p : Placer) :
    (s.putPlacer d p).ranker = s.ranker := rfl
@[simp] theorem State.putPlacer_placers (s : State) (d : Direction) (p : Placer) :
    (s.putPlacer d p).placers = s.placers.put d p := rfl
@[simp] theorem State.putPlacer_dlBudget (s : State) (d : Direction) (p : Placer) :
    (s.putPlacer d p).dlBudget = s.dlBudget := rfl
@[simp] theorem State.putPlacer_dlSpent (s : State) (d : Direction) (p : Placer) :
    (s.putPlacer d p).dlSpent = s.dlSpent := rfl
@[simp] theorem State.putPlacer_notices (s : State) (d : Direction) (p : Placer) :
    (s.putPlacer d p).notices = s.notices := rfl
@[simp] theorem State.putPlacer_monitor (s : State) (d : Direction) (p : Placer) :
    (s.putPlacer d p).monitor = s.monitor := rfl
@[simp] theorem State.putPlacer_draws (s : State) (d : Direction) (p : Placer) :
    (s.putPlacer d p).draws = s.draws := rfl

/-! ### State.awaitRestart -/

@[simp] theorem State.awaitRestart_pending (s : State) : (s.awaitRestart).pending = s.pending := rfl
@[simp] theorem State.awaitRestart_link (s : State) :
    (s.awaitRestart).link = { s.link with accepted := [], rx := .hunt, restart := .answerQueued } := rfl
@[simp] theorem State.awaitRestart_slots (s : State) : (s.awaitRestart).slots = s.slots := rfl
@[simp] theorem State.awaitRestart_profiles (s : State) :
    (s.awaitRestart).profiles = s.profiles := rfl
@[simp] theorem State.awaitRestart_rateTable (s : State) :
    (s.awaitRestart).rateTable = s.rateTable := rfl
@[simp] theorem State.awaitRestart_trackSetup (s : State) :
    (s.awaitRestart).trackSetup = s.trackSetup := rfl
@[simp] theorem State.awaitRestart_energy (s : State) : (s.awaitRestart).energy = s.energy := rfl
@[simp] theorem State.awaitRestart_ranker (s : State) : (s.awaitRestart).ranker = s.ranker := rfl
@[simp] theorem State.awaitRestart_placers (s : State) : (s.awaitRestart).placers = s.placers := rfl
@[simp] theorem State.awaitRestart_dlBudget (s : State) :
    (s.awaitRestart).dlBudget = s.dlBudget := rfl
@[simp] theorem State.awaitRestart_dlSpent (s : State) : (s.awaitRestart).dlSpent = s.dlSpent := rfl
@[simp] theorem State.awaitRestart_notices (s : State) : (s.awaitRestart).notices = s.notices := rfl
@[simp] theorem State.awaitRestart_monitor (s : State) : (s.awaitRestart).monitor = s.monitor := rfl
@[simp] theorem State.awaitRestart_draws (s : State) : (s.awaitRestart).draws = s.draws := rfl

/-! ### State.acceptFrame -/

@[simp] theorem State.acceptFrame_pending (s : State) (f : Frame) :
    (s.acceptFrame f).pending = s.pending := rfl
@[simp] theorem State.acceptFrame_link (s : State) (f : Frame) :
    (s.acceptFrame f).link = { s.link with rx := .hunt, accepted := s.link.accepted ++ [f] } := rfl
@[simp] theorem State.acceptFrame_slots (s : State) (f : Frame) :
    (s.acceptFrame f).slots = s.slots := rfl
@[simp] theorem State.acceptFrame_profiles (s : State) (f : Frame) :
    (s.acceptFrame f).profiles = s.profiles := rfl
@[simp] theorem State.acceptFrame_rateTable (s : State) (f : Frame) :
    (s.acceptFrame f).rateTable = s.rateTable := rfl
@[simp] theorem State.acceptFrame_trackSetup (s : State) (f : Frame) :
    (s.acceptFrame f).trackSetup = s.trackSetup := rfl
@[simp] theorem State.acceptFrame_energy (s : State) (f : Frame) :
    (s.acceptFrame f).energy = s.energy := rfl
@[simp] theorem State.acceptFrame_ranker (s : State) (f : Frame) :
    (s.acceptFrame f).ranker = s.ranker := rfl
@[simp] theorem State.acceptFrame_placers (s : State) (f : Frame) :
    (s.acceptFrame f).placers = s.placers := rfl
@[simp] theorem State.acceptFrame_dlBudget (s : State) (f : Frame) :
    (s.acceptFrame f).dlBudget = s.dlBudget := rfl
@[simp] theorem State.acceptFrame_dlSpent (s : State) (f : Frame) :
    (s.acceptFrame f).dlSpent = s.dlSpent := rfl
@[simp] theorem State.acceptFrame_notices (s : State) (f : Frame) :
    (s.acceptFrame f).notices = s.notices := rfl
@[simp] theorem State.acceptFrame_monitor (s : State) (f : Frame) :
    (s.acceptFrame f).monitor = s.monitor := rfl
@[simp] theorem State.acceptFrame_draws (s : State) (f : Frame) :
    (s.acceptFrame f).draws = s.draws := rfl

/-! ### PerDir -/

@[simp] theorem PerDir.get_put_same {α : Type} (p : PerDir α) (d : Direction) (a : α) :
    (p.put d a).get d = a := by cases d <;> rfl

@[simp] theorem PerDir.get_put_other {α : Type} (p : PerDir α) (d : Direction) (a : α) :
    (p.put d a).get (otherDir d) = p.get (otherDir d) := by cases d <;> rfl

@[simp] theorem PerDir.put_dl {α : Type} (p : PerDir α) (a : α) : p.put .dl a = ⟨a, p.ul⟩ := rfl
@[simp] theorem PerDir.put_ul {α : Type} (p : PerDir α) (a : α) : p.put .ul a = ⟨p.dl, a⟩ := rfl
@[simp] theorem PerDir.get_dl {α : Type} (p : PerDir α) : p.get .dl = p.dl := rfl
@[simp] theorem PerDir.get_ul {α : Type} (p : PerDir α) : p.get .ul = p.ul := rfl
@[simp] theorem PerDir.both_dl {α : Type} (a : α) : (PerDir.both a).dl = a := rfl
@[simp] theorem PerDir.both_ul {α : Type} (a : α) : (PerDir.both a).ul = a := rfl

/-! ### Slots -/

/-- A slot read after a slot is written. -/
theorem State.slot_putSlot (s : State) (n m : Nat) (x : Slot) :
    (s.putSlot n x).slot m = if n = m ∧ m < 96 then x else s.slot m := by
  unfold State.slot State.putSlot
  by_cases h : n = m
  · subst h
    by_cases hn : n < 96
    · simp [hn]
    · simp [hn]
  · simp [h]

/-- A slot read after a record is written. -/
theorem State.slot_putSub (s : State) (n m : Nat) (u : Subscriber) :
    (s.putSub n u).slot m = if n = m ∧ m < 96 then { s.slot m with sub := some u } else s.slot m := by
  unfold State.putSub
  rw [State.slot_putSlot]
  by_cases h : n = m
  · subst h; rfl
  · simp [h]

/-- A slot read after every record is changed by `f`. -/
theorem State.slot_mapSubs (s : State) (f : Subscriber → Subscriber) (n : Nat) :
    (s.mapSubs f).slot n = { s.slot n with sub := (s.slot n).sub.map f } := by
  unfold State.slot State.mapSubs
  by_cases hn : n < 96
  · simp [hn]
  · simp [hn, resetSlot]

/-- A slot number above 95 reads as a FREE slot. -/
theorem State.slot_above (s : State) (n : Nat) (h : 96 ≤ n) : s.slot n = resetSlot := by
  unfold State.slot
  simp [Nat.not_lt.mpr h]

/-- A slot that holds a record is one of the table's. -/
theorem State.slot_lt_of_sub (s : State) (n : Nat) (u : Subscriber) (h : (s.slot n).sub = some u) :
    n < 96 := by
  by_contra hn
  rw [State.slot_above s n (by omega)] at h
  simp [resetSlot] at h

/-- Reading a slot depends on the slots alone. -/
theorem State.slot_congr (s t : State) (h : s.slots = t.slots) (n : Nat) : s.slot n = t.slot n := by
  unfold State.slot; rw [h]

/-- A live handle names a slot of the table that holds the record. -/
theorem State.sub_of_lookup (s : State) (h : Handle) (u : Subscriber) (hl : s.lookup h = some u) :
    (s.slot h.slot).sub = some u ∧ (s.slot h.slot).gen = h.gen := by
  unfold State.lookup at hl
  split at hl
  · exact ⟨hl, by assumption⟩
  · cases hl

end Sys2Proof.Machine
end

