-- ==== Sys2Proof/Laws/Outbound.lean ====
section
/-! SUPPORT. What the arbiter and the answering of a request do, said once (R133, R169, R172 to R174). -/

namespace Sys2Proof.Machine

/-! ### The arbiter: what it leaves -/

@[simp] theorem State.begin_pending (s : State) (c : Option Transmission) :
    (s.begin c).pending = s.pending := rfl
@[simp] theorem State.begin_slots (s : State) (c : Option Transmission) :
    (s.begin c).slots = s.slots := rfl
@[simp] theorem State.begin_profiles (s : State) (c : Option Transmission) :
    (s.begin c).profiles = s.profiles := rfl
@[simp] theorem State.begin_rateTable (s : State) (c : Option Transmission) :
    (s.begin c).rateTable = s.rateTable := rfl
@[simp] theorem State.begin_trackSetup (s : State) (c : Option Transmission) :
    (s.begin c).trackSetup = s.trackSetup := rfl
@[simp] theorem State.begin_energy (s : State) (c : Option Transmission) :
    (s.begin c).energy = s.energy := rfl
@[simp] theorem State.begin_ranker (s : State) (c : Option Transmission) :
    (s.begin c).ranker = s.ranker := rfl
@[simp] theorem State.begin_placers (s : State) (c : Option Transmission) :
    (s.begin c).placers = s.placers := rfl
@[simp] theorem State.begin_dlBudget (s : State) (c : Option Transmission) :
    (s.begin c).dlBudget = s.dlBudget := rfl
@[simp] theorem State.begin_dlSpent (s : State) (c : Option Transmission) :
    (s.begin c).dlSpent = s.dlSpent := rfl
@[simp] theorem State.begin_monitor (s : State) (c : Option Transmission) :
    (s.begin c).monitor = s.monitor := rfl
@[simp] theorem State.begin_draws (s : State) (c : Option Transmission) :
    (s.begin c).draws = s.draws := rfl
@[simp] theorem State.begin_link_baud1 (s : State) (c : Option Transmission) :
    (s.begin c).link.baud1 = s.link.baud1 := rfl
@[simp] theorem State.begin_link_baud0 (s : State) (c : Option Transmission) :
    (s.begin c).link.baud0 = s.link.baud0 := rfl
@[simp] theorem State.begin_link_lineRate (s : State) (c : Option Transmission) :
    (s.begin c).link.lineRate = s.link.lineRate := rfl
@[simp] theorem State.begin_link_resetHeld (s : State) (c : Option Transmission) :
    (s.begin c).link.resetHeld = s.link.resetHeld := rfl
@[simp] theorem State.begin_link_rxAwaitIdle (s : State) (c : Option Transmission) :
    (s.begin c).link.rxAwaitIdle = s.link.rxAwaitIdle := rfl
@[simp] theorem State.begin_link_rx (s : State) (c : Option Transmission) :
    (s.begin c).link.rx = s.link.rx := rfl
@[simp] theorem State.begin_link_accepted (s : State) (c : Option Transmission) :
    (s.begin c).link.accepted = s.link.accepted := rfl
@[simp] theorem State.begin_link_decoding (s : State) (c : Option Transmission) :
    (s.begin c).link.decoding = s.link.decoding := rfl
@[simp] theorem State.begin_link_answers (s : State) (c : Option Transmission) :
    (s.begin c).link.answers = s.link.answers := rfl
@[simp] theorem State.begin_link_device (s : State) (c : Option Transmission) :
    (s.begin c).link.device = s.link.device := rfl
@[simp] theorem State.begin_link_alerts (s : State) (c : Option Transmission) :
    (s.begin c).link.alerts = s.link.alerts := rfl
@[simp] theorem State.begin_link_mask (s : State) (c : Option Transmission) :
    (s.begin c).link.mask = s.link.mask := rfl
@[simp] theorem State.begin_link_restart (s : State) (c : Option Transmission) :
    (s.begin c).link.restart = s.link.restart := rfl
@[simp] theorem State.begin_assemblers (s : State) (c : Option Transmission) :
    (s.begin c).notices.assemblers = s.notices.assemblers := rfl

@[simp] theorem State.arbitrate_pending (s : State) : s.arbitrate.pending = s.pending := rfl
@[simp] theorem State.arbitrate_slots (s : State) : s.arbitrate.slots = s.slots := rfl
@[simp] theorem State.arbitrate_profiles (s : State) : s.arbitrate.profiles = s.profiles := rfl
@[simp] theorem State.arbitrate_rateTable (s : State) : s.arbitrate.rateTable = s.rateTable := rfl
@[simp] theorem State.arbitrate_trackSetup (s : State) :
    s.arbitrate.trackSetup = s.trackSetup := rfl
@[simp] theorem State.arbitrate_energy (s : State) : s.arbitrate.energy = s.energy := rfl
@[simp] theorem State.arbitrate_ranker (s : State) : s.arbitrate.ranker = s.ranker := rfl
@[simp] theorem State.arbitrate_placers (s : State) : s.arbitrate.placers = s.placers := rfl
@[simp] theorem State.arbitrate_dlBudget (s : State) : s.arbitrate.dlBudget = s.dlBudget := rfl
@[simp] theorem State.arbitrate_dlSpent (s : State) : s.arbitrate.dlSpent = s.dlSpent := rfl
@[simp] theorem State.arbitrate_monitor (s : State) : s.arbitrate.monitor = s.monitor := rfl
@[simp] theorem State.arbitrate_draws (s : State) : s.arbitrate.draws = s.draws := rfl
@[simp] theorem State.arbitrate_link_baud1 (s : State) :
    s.arbitrate.link.baud1 = s.link.baud1 := rfl
@[simp] theorem State.arbitrate_link_baud0 (s : State) :
    s.arbitrate.link.baud0 = s.link.baud0 := rfl
@[simp] theorem State.arbitrate_link_lineRate (s : State) :
    s.arbitrate.link.lineRate = s.link.lineRate := rfl
@[simp] theorem State.arbitrate_link_resetHeld (s : State) :
    s.arbitrate.link.resetHeld = s.link.resetHeld := rfl
@[simp] theorem State.arbitrate_link_rxAwaitIdle (s : State) :
    s.arbitrate.link.rxAwaitIdle = s.link.rxAwaitIdle := rfl
@[simp] theorem State.arbitrate_link_rx (s : State) : s.arbitrate.link.rx = s.link.rx := rfl
@[simp] theorem State.arbitrate_link_accepted (s : State) :
    s.arbitrate.link.accepted = s.link.accepted := rfl
@[simp] theorem State.arbitrate_link_decoding (s : State) :
    s.arbitrate.link.decoding = s.link.decoding := rfl
@[simp] theorem State.arbitrate_link_answers (s : State) :
    s.arbitrate.link.answers = s.link.answers := rfl
@[simp] theorem State.arbitrate_link_device (s : State) :
    s.arbitrate.link.device = s.link.device := rfl
@[simp] theorem State.arbitrate_link_alerts (s : State) :
    s.arbitrate.link.alerts = s.link.alerts := rfl
@[simp] theorem State.arbitrate_link_mask (s : State) : s.arbitrate.link.mask = s.link.mask := rfl
@[simp] theorem State.arbitrate_link_restart (s : State) :
    s.arbitrate.link.restart = s.link.restart := rfl
@[simp] theorem State.arbitrate_assemblers (s : State) :
    s.arbitrate.notices.assemblers = s.notices.assemblers := rfl

/-- Marking the head leaves the notices. -/
theorem markGrantHead_blank (es : List GrantEntry) :
    ((markGrantHead es).map fun e => { e with mark := Mark.waiting })
      = es.map fun e => { e with mark := Mark.waiting } := by
  cases es <;> rfl

/-- Marking the head leaves the notices. -/
theorem markGeneralHead_blank (es : List GeneralEntry) :
    ((markGeneralHead es).map fun e => { e with mark := Mark.waiting })
      = es.map fun e => { e with mark := Mark.waiting } := by
  cases es <;> rfl

/-- A choice of the arbiter changes nothing but the message on TXD and the marks. -/
@[simp] theorem State.offLine_begin (s : State) (c : Option Transmission) :
    (s.begin c).offLine = s.offLine := by
  have h1 : ((s.begin c).notices.grants.map fun e => { e with mark := Mark.waiting })
      = s.notices.grants.map fun e => { e with mark := Mark.waiting } := by
    unfold State.begin
    dsimp only
    split
    · exact markGrantHead_blank _
    · rfl
  have h2 : ((s.begin c).notices.general.map fun e => { e with mark := Mark.waiting })
      = s.notices.general.map fun e => { e with mark := Mark.waiting } := by
    unfold State.begin
    dsimp only
    split
    · exact markGeneralHead_blank _
    · rfl
  unfold State.offLine
  rw [h1, h2]
  rfl

/-- The arbiter changes nothing but the message on TXD and the marks. -/
@[simp] theorem State.offLine_arbitrate (s : State) : s.arbitrate.offLine = s.offLine :=
  State.offLine_begin s _

/-- The same, with the answering side blanked too. -/
@[simp] theorem State.inner_begin (s : State) (c : Option Transmission) :
    (s.begin c).inner = s.inner := by
  unfold State.inner
  rw [State.offLine_begin]

/-- The same, with the answering side blanked too. -/
@[simp] theorem State.inner_arbitrate (s : State) : s.arbitrate.inner = s.inner :=
  State.inner_begin s _

/-- A choice of nothing changes nothing. -/
@[simp] theorem State.begin_none (s : State) : s.begin none = s := by
  unfold State.begin; simp

/-- With a message being sent, or held in reset, or with a restart's reset due, nothing is chosen. -/
theorem State.choice_none (s : State) (b : Bool)
    (h : s.link.tx.isSome = true ∨ s.link.resetHeld = true ∨ s.link.restart = .resetDue) :
    s.choice b = none := by
  unfold State.choice
  rw [if_pos]
  rcases h with h | h | h <;> simp [h]

/-- A message being sent is not disturbed (R174). -/
theorem State.arbitrate_of_busy (s : State) (h : s.link.tx.isSome = true) : s.arbitrate = s := by
  unfold State.arbitrate
  rw [State.choice_none s false (.inl h), State.begin_none]

/-! ### The summary (R172) -/

/-- The summary depends on these blocks alone. -/
theorem State.summary_congr (s t : State) (h1 : s.link.device = t.link.device)
    (h2 : s.ranker = t.ranker) (h3 : s.energy = t.energy) (h4 : s.slots = t.slots)
    (h5 : s.link.alerts = t.link.alerts) : s.summary = t.summary := by
  unfold State.summary State.inFlight State.liveCount State.subscriberAlert
  rw [h1, h2, h3, h4, h5]

/-! ### joinAnswer: the decoding ends -/

@[simp] theorem State.joinAnswer_pending (s : State) (f : Frame) (r : Result) (d : AnswerData) :
    (s.joinAnswer f r d).pending = s.pending := by
  unfold State.joinAnswer; dsimp only; split <;> rfl
@[simp] theorem State.joinAnswer_slots (s : State) (f : Frame) (r : Result) (d : AnswerData) :
    (s.joinAnswer f r d).slots = s.slots := by
  unfold State.joinAnswer; dsimp only; split <;> rfl
@[simp] theorem State.joinAnswer_profiles (s : State) (f : Frame) (r : Result) (d : AnswerData) :
    (s.joinAnswer f r d).profiles = s.profiles := by
  unfold State.joinAnswer; dsimp only; split <;> rfl
@[simp] theorem State.joinAnswer_rateTable (s : State) (f : Frame) (r : Result) (d : AnswerData) :
    (s.joinAnswer f r d).rateTable = s.rateTable := by
  unfold State.joinAnswer; dsimp only; split <;> rfl
@[simp] theorem State.joinAnswer_trackSetup (s : State) (f : Frame) (r : Result) (d : AnswerData) :
    (s.joinAnswer f r d).trackSetup = s.trackSetup := by
  unfold State.joinAnswer; dsimp only; split <;> rfl
@[simp] theorem State.joinAnswer_energy (s : State) (f : Frame) (r : Result) (d : AnswerData) :
    (s.joinAnswer f r d).energy = s.energy := by
  unfold State.joinAnswer; dsimp only; split <;> rfl
@[simp] theorem State.joinAnswer_ranker (s : State) (f : Frame) (r : Result) (d : AnswerData) :
    (s.joinAnswer f r d).ranker = s.ranker := by
  unfold State.joinAnswer; dsimp only; split <;> rfl
@[simp] theorem State.joinAnswer_placers (s : State) (f : Frame) (r : Result) (d : AnswerData) :
    (s.joinAnswer f r d).placers = s.placers := by
  unfold State.joinAnswer; dsimp only; split <;> rfl
@[simp] theorem State.joinAnswer_dlBudget (s : State) (f : Frame) (r : Result) (d : AnswerData) :
    (s.joinAnswer f r d).dlBudget = s.dlBudget := by
  unfold State.joinAnswer; dsimp only; split <;> rfl
@[simp] theorem State.joinAnswer_dlSpent (s : State) (f : Frame) (r : Result) (d : AnswerData) :
    (s.joinAnswer f r d).dlSpent = s.dlSpent := by
  unfold State.joinAnswer; dsimp only; split <;> rfl
@[simp] theorem State.joinAnswer_monitor (s : State) (f : Frame) (r : Result) (d : AnswerData) :
    (s.joinAnswer f r d).monitor = s.monitor := by
  unfold State.joinAnswer; dsimp only; split <;> rfl
@[simp] theorem State.joinAnswer_link_baud1 (s : State) (f : Frame) (r : Result) (d : AnswerData) :
    (s.joinAnswer f r d).link.baud1 = s.link.baud1 := by
  unfold State.joinAnswer; dsimp only; split <;> rfl
@[simp] theorem State.joinAnswer_link_baud0 (s : State) (f : Frame) (r : Result) (d : AnswerData) :
    (s.joinAnswer f r d).link.baud0 = s.link.baud0 := by
  unfold State.joinAnswer; dsimp only; split <;> rfl
@[simp] theorem State.joinAnswer_link_lineRate (s : State) (f : Frame) (r : Result) (d : AnswerData) :
    (s.joinAnswer f r d).link.lineRate = s.link.lineRate := by
  unfold State.joinAnswer; dsimp only; split <;> rfl
@[simp] theorem State.joinAnswer_link_resetHeld (s : State) (f : Frame) (r : Result) (d : AnswerData) :
    (s.joinAnswer f r d).link.resetHeld = s.link.resetHeld := by
  unfold State.joinAnswer; dsimp only; split <;> rfl
@[simp] theorem State.joinAnswer_link_rxAwaitIdle (s : State) (f : Frame) (r : Result) (d : AnswerData) :
    (s.joinAnswer f r d).link.rxAwaitIdle = s.link.rxAwaitIdle := by
  unfold State.joinAnswer; dsimp only; split <;> rfl
@[simp] theorem State.joinAnswer_link_rx (s : State) (f : Frame) (r : Result) (d : AnswerData) :
    (s.joinAnswer f r d).link.rx = s.link.rx := by
  unfold State.joinAnswer; dsimp only; split <;> rfl
@[simp] theorem State.joinAnswer_link_accepted (s : State) (f : Frame) (r : Result) (d : AnswerData) :
    (s.joinAnswer f r d).link.accepted = s.link.accepted.tail := by
  unfold State.joinAnswer; dsimp only; split <;> rfl
@[simp] theorem State.joinAnswer_link_decoding (s : State) (f : Frame) (r : Result) (d : AnswerData) :
    (s.joinAnswer f r d).link.decoding = .idle := by
  unfold State.joinAnswer; dsimp only; split <;> rfl
@[simp] theorem State.joinAnswer_link_answers (s : State) (f : Frame) (r : Result) (d : AnswerData) :
    (s.joinAnswer f r d).link.answers = s.link.answers ++ [s.answerFor f r d] := by
  unfold State.joinAnswer; dsimp only; split <;> rfl
@[simp] theorem State.joinAnswer_link_device (s : State) (f : Frame) (r : Result) (d : AnswerData) :
    (s.joinAnswer f r d).link.device = s.link.device := by
  unfold State.joinAnswer; dsimp only; split <;> rfl
@[simp] theorem State.joinAnswer_link_alerts (s : State) (f : Frame) (r : Result) (d : AnswerData) :
    (s.joinAnswer f r d).link.alerts = s.link.alerts := by
  unfold State.joinAnswer; dsimp only; split <;> rfl
@[simp] theorem State.joinAnswer_link_mask (s : State) (f : Frame) (r : Result) (d : AnswerData) :
    (s.joinAnswer f r d).link.mask = s.link.mask := by
  unfold State.joinAnswer; dsimp only; split <;> rfl
@[simp] theorem State.joinAnswer_link_restart (s : State) (f : Frame) (r : Result) (d : AnswerData) :
    (s.joinAnswer f r d).link.restart = s.link.restart := by
  unfold State.joinAnswer; dsimp only; split <;> rfl
@[simp] theorem State.joinAnswer_assemblers (s : State) (f : Frame) (r : Result) (d : AnswerData) :
    (s.joinAnswer f r d).notices.assemblers = s.notices.assemblers := by
  unfold State.joinAnswer; dsimp only; split <;> rfl

/-- Answering changes nothing but the answering side. -/
@[simp] theorem State.inner_joinAnswer (s : State) (f : Frame) (r : Result) (d : AnswerData) :
    (s.joinAnswer f r d).inner = s.inner := by
  unfold State.joinAnswer
  dsimp only
  rw [State.inner_arbitrate]
  split
  · have h := congrArg State.notices (State.offLine_begin s (s.choice true))
    have hg := congrArg Notices.grants h
    have hn := congrArg Notices.general h
    unfold State.inner
    unfold State.offLine at hg hn ⊢
    dsimp only at hg hn ⊢
    rw [hg, hn]
    rfl
  · rfl

/-- The summary of an answer is the summary of the state its answer has joined. -/
theorem State.summary_joinAnswer (s : State) (f : Frame) (r : Result) (d : AnswerData) :
    (s.joinAnswer f r d).summary = s.summary :=
  State.summary_congr _ _ (by simp) (by simp) (by simp) (by simp) (by simp)

/-- A message that is being sent when the answer joins goes on being sent (R174). -/
theorem State.tx_joinAnswer_of_busy (s : State) (f : Frame) (r : Result) (d : AnswerData)
    (h : s.link.tx.isSome = true) : (s.joinAnswer f r d).link.tx = s.link.tx := by
  have hn : s.noticeFirst = false := by
    unfold State.noticeFirst State.noticeWaits
    rw [State.choice_none s true (.inl h)]
    rfl
  unfold State.joinAnswer
  dsimp only
  rw [hn]
  rw [if_neg (by decide)]
  rw [State.arbitrate_of_busy _ (by exact h)]

/-- Everything that ends a decoding: the answer with its summary, the frame freed, the line undisturbed. -/
theorem State.answered_joinAnswer (s : State) (f : Frame) (r : Result) (d : AnswerData) :
    s.Answered (s.joinAnswer f r d) f r d := by
  refine ⟨?_, by simp, by simp, fun h => State.tx_joinAnswer_of_busy s f r d h⟩
  rw [State.joinAnswer_link_answers, State.summary_joinAnswer]
  rfl

/-- The same for a request whose block has changed `s` into `s'`, leaving the link's queues. -/
theorem State.answered_of_block (s s' : State) (f : Frame) (r : Result) (d : AnswerData)
    (h1 : s'.link.answers = s.link.answers) (h2 : s'.link.accepted = s.link.accepted)
    (h3 : s'.link.tx = s.link.tx) : s.Answered (s'.joinAnswer f r d) f r d := by
  have h := State.answered_joinAnswer s' f r d
  unfold State.Answered at h ⊢
  rwa [h1, h2, h3] at h

/-- The notices do not move while a message is being sent. -/
theorem State.notices_joinAnswer_of_busy (s : State) (f : Frame) (r : Result) (d : AnswerData)
    (h : s.link.tx.isSome = true) : (s.joinAnswer f r d).notices = s.notices := by
  have hn : s.noticeFirst = false := by
    unfold State.noticeFirst State.noticeWaits
    rw [State.choice_none s true (.inl h)]
    rfl
  unfold State.joinAnswer
  dsimp only
  rw [hn, if_neg (by decide), State.arbitrate_of_busy _ (by exact h)]

/-- A command that ends a decoding with the state its block made answers with that state. -/
theorem State.answersWith_of_exec (s s' : State) (c : Instr) (f : Frame) (r : Result) (d : AnswerData)
    (he : exec c s = .next (s'.joinAnswer f r d))
    (h1 : s'.link.answers = s.link.answers) (h2 : s'.link.accepted = s.link.accepted)
    (h3 : s'.link.tx = s.link.tx) : s.AnswersWith c f r d s' :=
  ⟨_, he, State.answered_of_block s s' f r d h1 h2 h3, State.inner_joinAnswer s' f r d,
    fun h => State.notices_joinAnswer_of_busy s' f r d (by rw [h3]; exact h)⟩

/-- A command that ends a decoding at once with a refusal refuses. -/
theorem State.refuses_of_exec (s : State) (c : Instr) (f : Frame) (r : Result)
    (he : exec c s = .next (s.joinAnswer f r .empty)) : s.Refuses c f r :=
  State.answersWith_of_exec s s c f r .empty he rfl rfl rfl

/-! ### Taking a frame up (R169) -/

/-- A frame that may be taken up is taken up by the command that asks for it. -/
theorem State.takeUp_of_takesUp (s : State) (f : Frame) (wanted : Frame → Bool)
    (h : s.TakesUp f) (hw : wanted f = true) : s.takeUp wanted = some f := by
  obtain ⟨h1, h2, h3, h4, h5⟩ := h
  unfold State.takeUp State.mayDecode
  cases ha : s.link.accepted with
  | nil => rw [ha] at h5; cases h5
  | cons g rest =>
    rw [ha] at h5
    cases h5
    simp [h1, h2, h3, h4, hw]

/-- What a frame taken up was. -/
theorem State.takesUp_of_takeUp (s : State) (f : Frame) (wanted : Frame → Bool)
    (h : s.takeUp wanted = some f) : s.TakesUp f ∧ wanted f = true := by
  unfold State.takeUp State.mayDecode at h
  split at h
  · rename_i hc
    split at h
    · rename_i g rest ha
      split at h
      · rename_i hw
        cases h
        simp only [Bool.and_eq_true, Bool.not_eq_true', beq_iff_eq, decide_eq_true_eq] at hc
        exact ⟨⟨hc.1.1.1, hc.1.1.2, hc.1.2, hc.2, by rw [ha]; rfl⟩, hw⟩
      · cases h
    · cases h
  · cases h

/-- When no frame asked for may be taken up, none is. -/
theorem State.takeUp_of_none (s : State) (wanted : Frame → Bool)
    (h : ∀ f, s.TakesUp f → wanted f = false) : s.takeUp wanted = none := by
  cases hu : s.takeUp wanted with
  | none => rfl
  | some f =>
    obtain ⟨ht, hw⟩ := State.takesUp_of_takeUp s f wanted hu
    rw [h f ht] at hw
    cases hw

/-- A request of fixed length whose frame may not be taken up changes nothing (log 1). -/
theorem State.runRequest_of_none (s : State) (q : Request) (len : Nat) (rule : State → Option Result)
    (block : List Byte → State → Reply) (h : ∀ f, s.TakesUp f → f.kind ≠ q.code) :
    s.runRequest q len rule block = .next s := by
  unfold State.runRequest
  rw [State.takeUp_of_none s _ fun f hf => beq_eq_false_iff_ne.mpr (h f hf)]

/-- A request of fixed length whose frame may be taken up: its step is the decoding of the frame. -/
theorem State.runRequest_eq (s : State) (f : Frame) (q : Request) (len : Nat)
    (rule : State → Option Result) (block : List Byte → State → Reply) (h : s.TakesUp f)
    (hk : f.kind = q.code) : s.runRequest q len rule block = .next (s.decodeFrame f len rule block) := by
  unfold State.runRequest
  rw [State.takeUp_of_takesUp s f _ h (by simp [hk])]

/-- A frame of another length is answered BAD_LENGTH. -/
theorem State.decodeFrame_badLength (s : State) (f : Frame) (len : Nat)
    (rule : State → Option Result) (block : List Byte → State → Reply) (hl : f.body.length ≠ len) :
    s.decodeFrame f len rule block = s.joinAnswer f .badLength .empty := by
  unfold State.decodeFrame
  rw [if_pos hl]

/-- A frame of the right length whose state rule is met is handed to its block. -/
theorem State.decodeFrame_eq (s : State) (f : Frame) (len : Nat) (rule : State → Option Result)
    (block : List Byte → State → Reply) (hl : f.body.length = len) (hr : rule s = none) :
    s.decodeFrame f len rule block
      = (block f.body s).state.joinAnswer f (block f.body s).result (block f.body s).data := by
  unfold State.decodeFrame
  rw [if_neg (by simp [hl]), hr]

/-- A request of fixed length that passes R170's first three checks answers what its block makes of it. -/
theorem State.runRequest_answers (s : State) (f : Frame) (c : Instr) (q : Request) (len : Nat)
    (rule : State → Option Result) (block : List Byte → State → Reply) (s' : State) (r : Result)
    (d : AnswerData) (he : exec c s = s.runRequest q len rule block) (h : s.TakesUp f)
    (hk : f.kind = q.code) (hl : f.body.length = len) (hr : rule s = none)
    (hb : block f.body s = ⟨s', r, d⟩) (h1 : s'.link.answers = s.link.answers)
    (h2 : s'.link.accepted = s.link.accepted) (h3 : s'.link.tx = s.link.tx) :
    s.AnswersWith c f r d s' := by
  refine State.answersWith_of_exec s s' c f r d ?_ h1 h2 h3
  rw [he, State.runRequest_eq s f q len rule block h hk, State.decodeFrame_eq s f len rule block hl hr, hb]

/-- A request of fixed length that its block refuses changes nothing. -/
theorem State.runRequest_refuses (s : State) (f : Frame) (c : Instr) (q : Request) (len : Nat)
    (rule : State → Option Result) (block : List Byte → State → Reply) (r : Result)
    (he : exec c s = s.runRequest q len rule block) (h : s.TakesUp f) (hk : f.kind = q.code)
    (hl : f.body.length = len) (hr : rule s = none) (hb : block f.body s = s.refuse r) :
    s.Refuses c f r :=
  State.runRequest_answers s f c q len rule block s r .empty he h hk hl hr hb rfl rfl rfl

/-- A request of fixed length with another length is answered BAD_LENGTH. -/
theorem State.runRequest_badLength (s : State) (f : Frame) (c : Instr) (q : Request) (len : Nat)
    (rule : State → Option Result) (block : List Byte → State → Reply)
    (he : exec c s = s.runRequest q len rule block) (h : s.TakesUp f) (hk : f.kind = q.code)
    (hl : f.body.length ≠ len) : s.Refuses c f .badLength := by
  refine State.refuses_of_exec s c f _ ?_
  rw [he, State.runRequest_eq s f q len rule block h hk,
    State.decodeFrame_badLength s f len rule block hl]

/-- A request of fixed length that its state rule turns away. -/
theorem State.runRequest_ruledOut (s : State) (f : Frame) (c : Instr) (q : Request) (len : Nat)
    (rule : State → Option Result) (block : List Byte → State → Reply) (r : Result)
    (he : exec c s = s.runRequest q len rule block) (h : s.TakesUp f) (hk : f.kind = q.code)
    (hl : f.body.length = len) (hr : rule s = some r) : s.Refuses c f r := by
  refine State.refuses_of_exec s c f _ ?_
  rw [he, State.runRequest_eq s f q len rule block h hk]
  unfold State.decodeFrame
  rw [if_neg (by simp [hl]), hr]

end Sys2Proof.Machine
end

