-- ==== Sys2Proof/Laws/Alerting.lean ====
section
/-! SUPPORT. What latching, offering a notice and taking an event can do, said once (R142, R144, R181). -/

namespace Sys2Proof.Machine

/-- `t` differs from `s` in nothing but the device alert set, WAITING notices added to the tail of the
general section within its capacity, and the Monitor Unit, whose fixed counters stand and whose stores stay
within their capacities. -/
def State.OnlyAlerts (s t : State) : Prop :=
  ∃ (al : BitVec 10) (more : List GeneralEntry) (mo : MonitorUnit),
    t = { s with
          link := { s.link with alerts := al }
          notices := { s.notices with general := s.notices.general ++ more }
          monitor := mo }
      ∧ (∀ e ∈ more, e.mark = .waiting)
      ∧ (s.notices.general.length ≤ Config.generalCapacity →
          (s.notices.general ++ more).length ≤ Config.generalCapacity)
      ∧ mo.passes = s.monitor.passes ∧ mo.dlTiles = s.monitor.dlTiles
      ∧ mo.ulTiles = s.monitor.ulTiles
      ∧ (s.monitor.records.length ≤ Config.captureCapacity →
          mo.records.length ≤ Config.captureCapacity)
      ∧ (s.monitor.trace.length ≤ Config.traceCapacity → mo.trace.length ≤ Config.traceCapacity)

theorem State.OnlyAlerts.refl (s : State) : s.OnlyAlerts s :=
  ⟨s.link.alerts, [], s.monitor, by simp, by simp, by simp, rfl, rfl, rfl, id, id⟩

theorem State.OnlyAlerts.trans {s t u : State} (h1 : s.OnlyAlerts t) (h2 : t.OnlyAlerts u) :
    s.OnlyAlerts u := by
  obtain ⟨al, more, mo, rfl, hm, hc, p1, p2, p3, p4, p5⟩ := h1
  obtain ⟨al', more', mo', rfl, hm', hc', q1, q2, q3, q4, q5⟩ := h2
  refine ⟨al', more ++ more', mo', by simp, ?_, ?_, q1.trans p1, q2.trans p2, q3.trans p3,
    q4 ∘ p4, q5 ∘ p5⟩
  · intro e he
    rcases List.mem_append.mp he with h | h
    · exact hm e h
    · exact hm' e h
  · intro h
    have := hc' (hc h)
    simpa using this

/-- A change of the Monitor Unit that keeps its counters and its capacities. -/
theorem State.onlyAlerts_monitor (s : State) (mo : MonitorUnit)
    (p1 : mo.passes = s.monitor.passes) (p2 : mo.dlTiles = s.monitor.dlTiles)
    (p3 : mo.ulTiles = s.monitor.ulTiles)
    (p4 : s.monitor.records.length ≤ Config.captureCapacity →
      mo.records.length ≤ Config.captureCapacity)
    (p5 : s.monitor.trace.length ≤ Config.traceCapacity →
      mo.trace.length ≤ Config.traceCapacity) :
    s.OnlyAlerts { s with monitor := mo } :=
  ⟨s.link.alerts, [], mo, by simp, by simp, by simp, p1, p2, p3, p4, p5⟩

/-! ### Latching and notices -/

theorem State.onlyAlerts_setAlert (s : State) (a : DeviceAlert) : s.OnlyAlerts (s.setAlert a) :=
  ⟨addBit s.link.alerts a.code, [], s.monitor, by simp [State.setAlert], by simp, by simp,
    rfl, rfl, rfl, id, id⟩

/-- A notice joins the tail, or is dropped and NOTICE_LOST is latched (R142). -/
theorem State.onlyAlerts_offerGeneral (s : State) (n : GeneralNotice) :
    s.OnlyAlerts (s.offerGeneral n) := by
  unfold State.offerGeneral
  split
  · rename_i h
    refine ⟨s.link.alerts, [⟨n, .waiting⟩], s.monitor, rfl, by simp, ?_, rfl, rfl, rfl, id, id⟩
    intro _
    simp only [List.length_append, List.length_cons, List.length_nil]
    omega
  · exact State.onlyAlerts_setAlert s .noticeLost

/-- Latching a device alert (R181). -/
theorem State.onlyAlerts_latchDevice (s : State) (a : DeviceAlert) (f : Option U16) :
    s.OnlyAlerts (s.latchDevice a f) := by
  unfold State.latchDevice
  split
  · exact .refl s
  · split
    · exact State.onlyAlerts_setAlert s a
    · exact (State.onlyAlerts_setAlert s a).trans (State.onlyAlerts_offerGeneral _ _)

/-! ### Events -/

theorem State.onlyAlerts_offerCapture (s : State) (r : CaptureRecord) :
    s.OnlyAlerts (s.offerCapture r) := by
  unfold State.offerCapture
  split
  · rename_i h
    have h1 : s.OnlyAlerts (s.putRecords (s.monitor.records ++ [r])) := by
      refine State.onlyAlerts_monitor s _ rfl rfl rfl ?_ id
      intro _
      simp only [List.length_append, List.length_cons, List.length_nil]
      omega
    dsimp only
    split
    · exact h1.trans (State.onlyAlerts_offerGeneral _ _)
    · exact h1
  · split
    · exact State.onlyAlerts_latchDevice s _ _
    · rename_i h _ _
      refine State.onlyAlerts_monitor s _ rfl rfl rfl ?_ id
      intro hc
      have : 0 < s.monitor.records.length := by
        unfold Config.captureCapacity at h
        omega
      simp only [List.length_append, List.length_tail, List.length_cons, List.length_nil]
      omega

theorem State.onlyAlerts_putMonitor (s : State) (i : Fin 4) (m : Monitor) :
    s.OnlyAlerts (s.putMonitor i m) :=
  State.onlyAlerts_monitor s _ rfl rfl rfl id id

theorem State.onlyAlerts_takeCapture (s : State) (e : Event) (i : Fin 4) :
    s.OnlyAlerts (s.takeCapture e i) := by
  unfold State.takeCapture
  dsimp only
  split
  · exact (State.onlyAlerts_putMonitor s i _).trans (State.onlyAlerts_offerCapture _ _)
  · exact .refl s

theorem State.onlyAlerts_countEvent (s : State) (e : Event) (i : Fin 4) :
    s.OnlyAlerts (s.countEvent e i).1 := by
  unfold State.countEvent
  dsimp only
  split
  · split
    · dsimp only
      split
      · exact (State.onlyAlerts_putMonitor s i _).trans (State.onlyAlerts_latchDevice _ _ _)
      · exact State.onlyAlerts_putMonitor s i _
    · exact State.onlyAlerts_putMonitor s i _
  · exact .refl s

theorem State.onlyAlerts_judgeMonitor (e : Event) (acc : State × Bool) (i : Fin 4) :
    acc.1.OnlyAlerts (judgeMonitor e acc i).1 := by
  unfold judgeMonitor
  exact (State.onlyAlerts_takeCapture _ e i).trans (State.onlyAlerts_countEvent _ e i)

theorem State.onlyAlerts_judgeMonitors (e : Event) (is : List (Fin 4)) (acc : State × Bool) :
    acc.1.OnlyAlerts (is.foldl (judgeMonitor e) acc).1 := by
  induction is generalizing acc with
  | nil => exact .refl _
  | cons i is ih => exact (State.onlyAlerts_judgeMonitor e acc i).trans (ih _)

/-- The trace keeps its sixteen entries at most (R156). -/
theorem traceJoin_length (es : List TraceEntry) (t : TraceEntry)
    (h : es.length ≤ Config.traceCapacity) : (traceJoin es t).length ≤ Config.traceCapacity := by
  unfold traceJoin
  split
  · simp only [List.length_append, List.length_cons, List.length_nil]
    omega
  · simp only [List.length_append, List.length_tail, List.length_cons, List.length_nil]
    unfold Config.traceCapacity at *
    omega

theorem State.onlyAlerts_traceDecision (s : State) (t : Option TraceEntry) :
    s.OnlyAlerts (s.traceDecision t) := by
  unfold State.traceDecision
  split
  · exact .refl s
  · split
    · exact .refl s
    · exact State.onlyAlerts_monitor s _ rfl rfl rfl id (traceJoin_length _ _)

theorem State.onlyAlerts_freeze (s : State) : s.OnlyAlerts s.freeze :=
  State.onlyAlerts_monitor s _ rfl rfl rfl id id

/-- The Monitor Unit taking an event changes nothing it watches (R144, 08). -/
theorem State.onlyAlerts_takeEvent (s : State) (e : Event) (t : Option TraceEntry) :
    s.OnlyAlerts (s.takeEvent e t) := by
  unfold State.takeEvent
  dsimp only
  have h := (State.onlyAlerts_judgeMonitors e monitorIndices (s, false)).trans
    (State.onlyAlerts_traceDecision _ t)
  split
  · exact h.trans (State.onlyAlerts_freeze _)
  · exact h

theorem State.onlyAlerts_takeEvents (s : State) (es : List Event) : s.OnlyAlerts (s.takeEvents es) := by
  unfold State.takeEvents
  induction es generalizing s with
  | nil => exact .refl s
  | cons e es ih => exact (State.onlyAlerts_takeEvent s e none).trans (ih _)

/-! ### Reading the fields that stand -/

section
variable {s t : State} (h : s.OnlyAlerts t)
include h
theorem State.OnlyAlerts.pending : t.pending = s.pending := by obtain ⟨_, _, _, rfl, _⟩ := h; rfl
theorem State.OnlyAlerts.slots : t.slots = s.slots := by obtain ⟨_, _, _, rfl, _⟩ := h; rfl
theorem State.OnlyAlerts.profiles : t.profiles = s.profiles := by obtain ⟨_, _, _, rfl, _⟩ := h; rfl
theorem State.OnlyAlerts.rateTable : t.rateTable = s.rateTable := by
  obtain ⟨_, _, _, rfl, _⟩ := h; rfl
theorem State.OnlyAlerts.trackSetup : t.trackSetup = s.trackSetup := by
  obtain ⟨_, _, _, rfl, _⟩ := h; rfl
theorem State.OnlyAlerts.energy : t.energy = s.energy := by obtain ⟨_, _, _, rfl, _⟩ := h; rfl
theorem State.OnlyAlerts.ranker : t.ranker = s.ranker := by obtain ⟨_, _, _, rfl, _⟩ := h; rfl
theorem State.OnlyAlerts.placers : t.placers = s.placers := by obtain ⟨_, _, _, rfl, _⟩ := h; rfl
theorem State.OnlyAlerts.dlBudget : t.dlBudget = s.dlBudget := by obtain ⟨_, _, _, rfl, _⟩ := h; rfl
theorem State.OnlyAlerts.dlSpent : t.dlSpent = s.dlSpent := by obtain ⟨_, _, _, rfl, _⟩ := h; rfl
theorem State.OnlyAlerts.draws : t.draws = s.draws := by obtain ⟨_, _, _, rfl, _⟩ := h; rfl
theorem State.OnlyAlerts.grants : t.notices.grants = s.notices.grants := by
  obtain ⟨_, _, _, rfl, _⟩ := h; rfl
theorem State.OnlyAlerts.assemblers : t.notices.assemblers = s.notices.assemblers := by
  obtain ⟨_, _, _, rfl, _⟩ := h; rfl
theorem State.OnlyAlerts.link : t.link = { s.link with alerts := t.link.alerts } := by
  obtain ⟨_, _, _, rfl, _⟩ := h; rfl
end

/-! ### Latching a member (R18, R181) -/

/-- A member latched: a record's alert set, and then only alerting. -/
theorem State.latchMember_cases (s : State) (n : Nat) (m : Member) :
    s.latchMember n m = s
      ∨ ∃ u, (s.slot n).sub = some u
          ∧ (s.putSub n { u with alerts := addBit u.alerts m.bit }).OnlyAlerts (s.latchMember n m) := by
  unfold State.latchMember
  split
  · exact .inl rfl
  · rename_i u hu
    split
    · exact .inl rfl
    · refine .inr ⟨u, hu, ?_⟩
      dsimp only
      split
      · exact .refl _
      · exact State.onlyAlerts_offerGeneral _ _

end Sys2Proof.Machine
end

