-- ==== Sys2Proof/Laws/Table.lean ====
section
/-! SUPPORT. What the operations on records, the purge, construction and placement leave as it stands: the
footprints of the shared operations of chapters 1 to 7. -/

namespace Sys2Proof.Machine

/-- `t` differs from `s` in nothing but the slots and what alerting changes. -/
def State.OnlyTable (s t : State) : Prop := ∃ sl, State.OnlyAlerts { s with slots := sl } t

theorem State.OnlyAlerts.onlyTable {s t : State} (h : s.OnlyAlerts t) : s.OnlyTable t := ⟨s.slots, h⟩

theorem State.OnlyTable.refl (s : State) : s.OnlyTable s := (State.OnlyAlerts.refl s).onlyTable

/-- Alerting does not read the slots' replacement. -/
theorem State.OnlyAlerts.with_slots {s t : State} (h : s.OnlyAlerts t) (sl : Vector Slot 96) :
    State.OnlyAlerts { s with slots := sl } { t with slots := sl } := by
  obtain ⟨al, more, mo, rfl, rest⟩ := h
  exact ⟨al, more, mo, rfl, rest⟩

theorem State.OnlyTable.trans {s t u : State} (h1 : s.OnlyTable t) (h2 : t.OnlyTable u) :
    s.OnlyTable u := by
  obtain ⟨sl, h1⟩ := h1
  obtain ⟨sl', h2⟩ := h2
  exact ⟨sl', (h1.with_slots sl').trans h2⟩

theorem State.onlyTable_slots (s : State) (sl : Vector Slot 96) : s.OnlyTable { s with slots := sl } :=
  ⟨sl, .refl _⟩

theorem State.onlyTable_putSub (s : State) (n : Nat) (u : Subscriber) : s.OnlyTable (s.putSub n u) :=
  State.onlyTable_slots s _

theorem State.onlyTable_putSlot (s : State) (n : Nat) (x : Slot) : s.OnlyTable (s.putSlot n x) :=
  State.onlyTable_slots s _

theorem State.onlyTable_mapSubs (s : State) (f : Subscriber → Subscriber) :
    s.OnlyTable (s.mapSubs f) :=
  State.onlyTable_slots s _

theorem State.onlyTable_latchMember (s : State) (n : Nat) (m : Member) :
    s.OnlyTable (s.latchMember n m) := by
  rcases State.latchMember_cases s n m with h | ⟨u, _, h⟩
  · rw [h]; exact .refl s
  · exact (State.onlyTable_putSub s n _).trans h.onlyTable

theorem State.onlyTable_takeEvent (s : State) (e : Event) (t : Option TraceEntry) :
    s.OnlyTable (s.takeEvent e t) := (State.onlyAlerts_takeEvent s e t).onlyTable

section
variable {s t : State} (h : s.OnlyTable t)
include h
theorem State.OnlyTable.pending : t.pending = s.pending := by obtain ⟨_, h⟩ := h; exact h.pending
theorem State.OnlyTable.profiles : t.profiles = s.profiles := by obtain ⟨_, h⟩ := h; exact h.profiles
theorem State.OnlyTable.rateTable : t.rateTable = s.rateTable := by
  obtain ⟨_, h⟩ := h; exact h.rateTable
theorem State.OnlyTable.trackSetup : t.trackSetup = s.trackSetup := by
  obtain ⟨_, h⟩ := h; exact h.trackSetup
theorem State.OnlyTable.energy : t.energy = s.energy := by obtain ⟨_, h⟩ := h; exact h.energy
theorem State.OnlyTable.ranker : t.ranker = s.ranker := by obtain ⟨_, h⟩ := h; exact h.ranker
theorem State.OnlyTable.placers : t.placers = s.placers := by obtain ⟨_, h⟩ := h; exact h.placers
theorem State.OnlyTable.dlBudget : t.dlBudget = s.dlBudget := by obtain ⟨_, h⟩ := h; exact h.dlBudget
theorem State.OnlyTable.dlSpent : t.dlSpent = s.dlSpent := by obtain ⟨_, h⟩ := h; exact h.dlSpent
theorem State.OnlyTable.draws : t.draws = s.draws := by obtain ⟨_, h⟩ := h; exact h.draws
theorem State.OnlyTable.grants : t.notices.grants = s.notices.grants := by
  obtain ⟨_, h⟩ := h; exact h.grants
theorem State.OnlyTable.assemblers : t.notices.assemblers = s.notices.assemblers := by
  obtain ⟨_, h⟩ := h; exact h.assemblers
theorem State.OnlyTable.link : t.link = { s.link with alerts := t.link.alerts } := by
  obtain ⟨_, h⟩ := h; exact h.link
end

/-! ### Batch entries (chapters 2 and 3) -/

theorem State.onlyTable_takeSample (s : State) (h : Handle) (u : Subscriber) (d : Direction) (v : Nat) :
    s.OnlyTable (s.takeSample h u d v).state :=
  State.onlyTable_putSub s _ _

theorem State.onlyTable_qualityEntry (e : List Byte) (s : State) :
    s.OnlyTable (qualityEntry e s).state := by
  unfold qualityEntry
  split
  · exact State.onlyTable_takeSample s _ _ _ _
  · exact .refl s

theorem State.onlyTable_queueEntry (e : List Byte) (s : State) : s.OnlyTable (queueEntry e s).state := by
  unfold queueEntry State.takeReport
  split
  · split
    · exact State.onlyTable_putSub s _ _
    · exact .refl s
  · exact .refl s

theorem State.onlyTable_takeFailed (s : State) (h : Handle) (u : Subscriber) (d : Direction) (f : U16) :
    s.OnlyTable (s.takeFailed h u d f).state := by
  unfold State.takeFailed
  dsimp only
  split
  · exact (State.onlyTable_putSub s _ _).trans (State.onlyTable_latchMember _ _ _)
  · exact State.onlyTable_putSub s _ _

theorem State.onlyTable_outcomeEntry (e : List Byte) (s : State) :
    s.OnlyTable (outcomeEntry e s).state := by
  unfold outcomeEntry State.takeOutcome
  split
  · split
    · exact .refl s
    · split
      · exact State.onlyTable_takeFailed s _ _ _ _
      · exact State.onlyTable_putSub s _ _
  · exact .refl s

/-- Nothing is taken of no entries. -/
@[simp] theorem takeEntries_nil (apply : List Byte → State → EntryTaken) (p : BatchProgress) (s : State) :
    takeEntries apply [] p s = ⟨p, s, []⟩ := rfl

/-- The entries but the last are taken, their takings end, and then the last one is taken. -/
@[simp] theorem takeEntries_append_one (apply : List Byte → State → EntryTaken) (es : List (List Byte))
    (e : List Byte) (p : BatchProgress) (s : State) :
    takeEntries apply (es ++ [e]) p s = (takeEntries apply es p s).next apply e := by
  unfold takeEntries
  rw [List.foldl_append]
  rfl

/-- Without events the end of a taking is the arbiter's choice. -/
@[simp] theorem EntriesTaken.settle_of_no_events (p : BatchProgress) (s : State) :
    EntriesTaken.settle ⟨p, s, []⟩ = s.arbitrate := rfl

/-- What an entry, an event and the arbiter keep, the entries of a batch keep. -/
theorem State.takeEntries_keeps (q : State → Prop) (apply : List Byte → State → EntryTaken)
    (hq : ∀ s, q s → q s.arbitrate) (hv : ∀ (es : List Event) (s : State), q s → q (s.takeEvents es))
    (ha : ∀ (e : List Byte) (s : State), q s → q (apply e s).state)
    (es : List (List Byte)) (p : BatchProgress) (s : State) (h : q s) :
    q (takeEntries apply es p s).state := by
  unfold takeEntries
  suffices ∀ b : EntriesTaken, q b.state → q (es.foldl (EntriesTaken.next apply) b).state from
    this ⟨p, s, []⟩ h
  induction es with
  | nil => exact fun b hb => hb
  | cons e es ih => exact fun b hb => ih _ (ha e _ (hq _ (hv _ _ hb)))

/-- Entries that change the slots and alerting alone leave every other block, the link but for its alerts and
the message on TXD, and the assemblers. -/
theorem State.takeEntries_footprint (apply : List Byte → State → EntryTaken)
    (ha : ∀ (e : List Byte) (s : State), s.OnlyTable (apply e s).state) (es : List (List Byte))
    (p : BatchProgress) (s : State) :
    let t := (takeEntries apply es p s).state
    t.pending = s.pending ∧ t.profiles = s.profiles ∧ t.rateTable = s.rateTable
      ∧ t.trackSetup = s.trackSetup ∧ t.energy = s.energy ∧ t.ranker = s.ranker
      ∧ t.placers = s.placers ∧ t.dlBudget = s.dlBudget ∧ t.dlSpent = s.dlSpent ∧ t.draws = s.draws
      ∧ t.notices.assemblers = s.notices.assemblers
      ∧ t.link = { s.link with alerts := t.link.alerts, tx := t.link.tx } := by
  have step : ∀ t u : State, t.OnlyTable u →
      (t.pending = s.pending ∧ t.profiles = s.profiles ∧ t.rateTable = s.rateTable
        ∧ t.trackSetup = s.trackSetup ∧ t.energy = s.energy ∧ t.ranker = s.ranker
        ∧ t.placers = s.placers ∧ t.dlBudget = s.dlBudget ∧ t.dlSpent = s.dlSpent ∧ t.draws = s.draws
        ∧ t.notices.assemblers = s.notices.assemblers
        ∧ t.link = { s.link with alerts := t.link.alerts, tx := t.link.tx }) →
      (u.pending = s.pending ∧ u.profiles = s.profiles ∧ u.rateTable = s.rateTable
        ∧ u.trackSetup = s.trackSetup ∧ u.energy = s.energy ∧ u.ranker = s.ranker
        ∧ u.placers = s.placers ∧ u.dlBudget = s.dlBudget ∧ u.dlSpent = s.dlSpent ∧ u.draws = s.draws
        ∧ u.notices.assemblers = s.notices.assemblers
        ∧ u.link = { s.link with alerts := u.link.alerts, tx := u.link.tx }) := by
    rintro t u ho ⟨h1, h2, h3, h4, h5, h6, h7, h8, h9, h10, h11, h12⟩
    refine ⟨ho.pending.trans h1, ho.profiles.trans h2, ho.rateTable.trans h3, ho.trackSetup.trans h4,
      ho.energy.trans h5, ho.ranker.trans h6, ho.placers.trans h7, ho.dlBudget.trans h8,
      ho.dlSpent.trans h9, ho.draws.trans h10, ho.assemblers.trans h11, ?_⟩
    have hl := ho.link
    rw [hl, h12]
  refine State.takeEntries_keeps
    (fun t => t.pending = s.pending ∧ t.profiles = s.profiles ∧ t.rateTable = s.rateTable
      ∧ t.trackSetup = s.trackSetup ∧ t.energy = s.energy ∧ t.ranker = s.ranker
      ∧ t.placers = s.placers ∧ t.dlBudget = s.dlBudget ∧ t.dlSpent = s.dlSpent ∧ t.draws = s.draws
      ∧ t.notices.assemblers = s.notices.assemblers
      ∧ t.link = { s.link with alerts := t.link.alerts, tx := t.link.tx })
    apply (fun t h => ?_) (fun es t h => step t _ (State.onlyAlerts_takeEvents t es).onlyTable h)
    (fun e t h => step t _ (ha e t) h) es p s (by simp)
  obtain ⟨h1, h2, h3, h4, h5, h6, h7, h8, h9, h10, h11, h12⟩ := h
  refine ⟨h1, h2, h3, h4, h5, h6, h7, h8, h9, h10, h11, ?_⟩
  have hx : t.arbitrate.link = { t.link with tx := t.arbitrate.link.tx } := rfl
  rw [hx, h12]

/-- The message being sent is not disturbed while the entries of a batch are taken. -/
theorem State.takeEntries_tx_of_busy (apply : List Byte → State → EntryTaken)
    (ha : ∀ (e : List Byte) (s : State), s.OnlyTable (apply e s).state) (es : List (List Byte))
    (p : BatchProgress) (s : State) (h : s.link.tx.isSome = true) :
    (takeEntries apply es p s).state.link.tx = s.link.tx := by
  refine State.takeEntries_keeps (fun t => t.link.tx = s.link.tx) apply (fun t ht => ?_)
    (fun es t ht => ?_) (fun e t ht => ?_) es p s rfl
  · rw [State.arbitrate_of_busy _ (by rw [ht]; exact h)]
    exact ht
  · rw [(State.onlyAlerts_takeEvents t es).onlyTable.link]
    exact ht
  · rw [(ha e t).link]
    exact ht

/-! ### The purge and accounting (R101 to R104, R139) -/

/-- The purge removes WAITING entries of other passes from the grant section, and latches at most
MAP_PURGED. -/
theorem State.onlyAlerts_purge (s : State) (pass : U32) (f : U16) :
    State.OnlyAlerts
      { s with
        notices := { s.notices with grants := s.notices.grants.filter fun e => !e.purged pass } }
      (s.purge pass f) := by
  unfold State.purge
  dsimp only
  split
  · exact State.onlyAlerts_latchDevice _ _ _
  · exact .refl _

theorem State.onlyTable_latchMembers (n : Nat) (ms : List Member) (s : State) :
    s.OnlyTable (ms.foldl (fun s m => s.latchMember n m) s) := by
  induction ms generalizing s with
  | nil => exact .refl s
  | cons m ms ih => exact (State.onlyTable_latchMember s n m).trans (ih _)

theorem State.onlyTable_accountSlot (s : State) (n : Nat) : s.OnlyTable (s.accountSlot n) := by
  unfold State.accountSlot
  split
  · exact .refl s
  · split
    · exact (State.onlyTable_putSub s n _).trans (State.onlyTable_latchMembers _ _ _)
    · exact .refl s

theorem State.onlyTable_account (s : State) : s.OnlyTable s.account := by
  unfold State.account
  generalize List.range Config.slotCount = ns
  induction ns generalizing s with
  | nil => exact .refl s
  | cons n ns ih => exact (State.onlyTable_accountSlot s n).trans (ih _)

theorem State.onlyTable_latchDeadline (s : State) : s.OnlyTable s.latchDeadline := by
  unfold State.latchDeadline
  split
  · exact (State.onlyAlerts_latchDevice s _ _).onlyTable
  · exact .refl s

/-! ### Construction (R84 to R90) -/

/-- The taking of a slot changes the slots, alerting, the views and the lists. -/
theorem State.constructAt_footprint (s : State) (n : Nat) :
    ∃ views lists, State.OnlyTable
      { s with ranker := { s.ranker with views := views, lists := lists } } (s.constructAt n) := by
  unfold State.constructAt
  split
  · exact ⟨s.ranker.views, s.ranker.lists, .refl s⟩
  · rename_i u _
    split
    · split
      · refine ⟨s.ranker.views.setIfInBounds n (seenView (s.handleAt n) u false), s.ranker.lists, ?_⟩
        exact ((State.onlyTable_putSub
            { s with
              ranker :=
                { s.ranker with
                  views := s.ranker.views.setIfInBounds n (seenView (s.handleAt n) u false) } }
            n _).trans (State.onlyTable_latchMember _ _ _)).trans (State.onlyTable_takeEvent _ _ _)
      · refine ⟨s.ranker.views.setIfInBounds n (seenView (s.handleAt n) (s.applyCredit u) true),
          ⟨s.ranker.lists.dl ++ s.candidatesOf (s.handleAt n) (s.applyCredit u) .dl,
            s.ranker.lists.ul ++ s.candidatesOf (s.handleAt n) (s.applyCredit u) .ul⟩, ?_⟩
        exact State.onlyTable_slots _ _
    · exact ⟨s.ranker.views.setIfInBounds n (seenView (s.handleAt n) u false), s.ranker.lists,
        .refl _⟩
    · exact ⟨s.ranker.views.setIfInBounds n (seenView (s.handleAt n) u false), s.ranker.lists,
        .refl _⟩

/-- The pass allowance changes the energy state, the allowance, and at most latches ENERGY_STALE (R75). -/
theorem State.onlyAlerts_takeAllowance (s : State) (b : Bool) :
    State.OnlyAlerts
      { s with
        energy := s.energy.afterAllowance s.ranker.setupCopy.energyTimeout
        ranker :=
          { s.ranker with
            allowance := (s.energy.afterAllowance s.ranker.setupCopy.energyTimeout).allowance b } }
      (s.takeAllowance b) := by
  unfold State.takeAllowance
  dsimp only
  split
  · exact State.onlyAlerts_latchDevice _ _ _
  · exact .refl _

end Sys2Proof.Machine
end

