-- ==== Sys2Proof/Laws/Delivery.lean ====
section
/-! SUPPORT. What the assemblers, the end of a Placer, a pass start and a completion change, said once
(R128, R134 to R139, R83, R101). -/

namespace Sys2Proof.Machine

/-- A chunk queued and the assembler emptied. -/
theorem State.queueChunk_shape (s : State) (d : Direction) (a : Assembler) :
    s.queueChunk d a
      = { s with
          notices :=
            { s.notices with
              grants := s.notices.grants ++ [⟨a.chunkOf d, .waiting, a.passIndex⟩]
              assemblers := s.notices.assemblers.put d { a with pending := [], seq := a.seq + 1 } } } :=
  rfl

/-- A record handed to its assembler changes the grant section by at most one WAITING chunk of the
assembler's pass, and the assembler in its records and sequence (R135). -/
theorem State.handRecord_shape (s : State) (d : Direction) (g : GrantRecord) :
    ∃ more rs q,
      s.handRecord d g
          = { s with
              notices :=
                { s.notices with
                  grants := s.notices.grants ++ more
                  assemblers :=
                    s.notices.assemblers.put d
                      { s.notices.assemblers.get d with pending := rs, seq := q } } }
        ∧ ∀ e ∈ more, e.mark = .waiting ∧ e.passIndex = (s.notices.assemblers.get d).passIndex := by
  unfold State.handRecord
  dsimp only
  split
  · refine ⟨_, _, _, State.queueChunk_shape s d _, ?_⟩
    intro e he
    simp only [List.mem_singleton] at he
    subst he
    exact ⟨rfl, rfl⟩
  · exact ⟨[], _, _, by simp only [List.append_nil]; rfl, by simp⟩

/-- A flush changes the grant section by at most one WAITING chunk of the assembler's pass, and closes the
assembler (R136). -/
theorem State.flush_shape (s : State) (d : Direction) :
    ∃ more rs q,
      s.flush d
          = { s with
              notices :=
                { s.notices with
                  grants := s.notices.grants ++ more
                  assemblers :=
                    s.notices.assemblers.put d
                      { s.notices.assemblers.get d with
                        stage := .closed, pending := rs, seq := q } } }
        ∧ ∀ e ∈ more, e.mark = .waiting ∧ e.passIndex = (s.notices.assemblers.get d).passIndex := by
  unfold State.flush
  dsimp only
  by_cases h : (s.notices.assemblers.get d).pending = []
  · refine ⟨[], (s.notices.assemblers.get d).pending, (s.notices.assemblers.get d).seq, ?_, by simp⟩
    rw [if_pos h]
    simp only [List.append_nil]
    rfl
  · refine ⟨[⟨(s.notices.assemblers.get d).chunkOf d, .waiting,
      (s.notices.assemblers.get d).passIndex⟩], [], (s.notices.assemblers.get d).seq + 1, ?_, ?_⟩
    · rw [if_neg h]
      rw [State.queueChunk_shape]
      cases d <;> rfl
    · intro e he
      simp only [List.mem_singleton] at he
      subst he
      exact ⟨rfl, rfl⟩

/-- The grant section after a pass start, before what alerting adds (R83, R139). -/
def State.passStarted (s : State) (f : U16) : State :=
  { s with
    ranker := s.ranker.started f s.profiles
    notices :=
      { s.notices with
        grants := s.notices.grants.filter fun e => !e.purged (s.ranker.passIndex + 1#32) } }

/-- A pass start changes the Ranker, the grant section, the histories, and what alerting changes. -/
theorem State.onlyTable_startPass (s : State) (f : U16) :
    (s.passStarted f).OnlyTable (s.startPass f) := by
  exact (State.onlyTable_slots _ _).trans
    (State.onlyAlerts_purge
      (State.mapSubs { s with ranker := s.ranker.started f s.profiles } (·.retire f)) _ f).onlyTable

/-- The taking of an accepted FRAME_MARK's start: the pass started, the answer joined, and then at most the
alerting of one FRAME_GAP with the arbiter's choice (R81 to R83, R144). -/
theorem State.startMarkedPass_cases (s : State) (f : U16) :
    s.startMarkedPass f = (s.startPass f).answerHead .ok
      ∨ ∃ b, ((s.startPass f).answerHead .ok).OnlyAlerts b ∧ s.startMarkedPass f = b.arbitrate := by
  unfold State.startMarkedPass
  dsimp only
  split
  · exact .inr ⟨_, State.onlyAlerts_takeEvent _ _ _, rfl⟩
  · exact .inl rfl

/-- What a completion writes beside records and alerting (R101). -/
def State.completed (s : State) : State :=
  { s with
    ranker := s.ranker.finished
    monitor := s.monitor.countPass s.placers.dl.tiles s.placers.ul.tiles
    notices :=
      { s.notices with
        grants := s.notices.grants ++ [⟨.mapEnd s.mapEnd, .waiting, s.ranker.passIndex⟩] } }

/-- The state of a completion before its events and the arbiter. -/
theorem State.complete_footprint (s : State) :
    ∃ (al : BitVec 10) (more : List GeneralEntry) (mo : MonitorUnit) (sl : Vector Slot 96) (b : State),
      s.complete = b.arbitrate
        ∧ b = { s.completed with
                link := { s.link with alerts := al }
                slots := sl
                notices := { s.completed.notices with general := s.notices.general ++ more }
                monitor := mo }
        ∧ (∀ e ∈ more, e.mark = .waiting)
        ∧ (s.notices.general.length ≤ Config.generalCapacity →
            (s.notices.general ++ more).length ≤ Config.generalCapacity)
        ∧ mo.passes = s.monitor.passes + 1#32
        ∧ mo.dlTiles = s.monitor.dlTiles + BitVec.ofNat 32 s.placers.dl.tiles
        ∧ mo.ulTiles = s.monitor.ulTiles + BitVec.ofNat 32 s.placers.ul.tiles
        ∧ (s.monitor.records.length ≤ Config.captureCapacity →
            mo.records.length ≤ Config.captureCapacity)
        ∧ (s.monitor.trace.length ≤ Config.traceCapacity →
            mo.trace.length ≤ Config.traceCapacity) := by
  unfold State.complete
  dsimp only
  obtain ⟨sl, al, more, mo, h1, hm, hc, p1, p2, p3, p4, p5⟩ :=
    (State.onlyTable_account s).trans (State.onlyTable_latchDeadline s.account)
  rw [h1]
  obtain ⟨al', more', mo', h2, hm', hc', q1, q2, q3, q4, q5⟩ :=
    State.onlyAlerts_takeEvents
      { (State.queueGrant
          { s with
            slots := sl
            link := { s.link with alerts := al }
            notices := { s.notices with general := s.notices.general ++ more }
            monitor := mo } (.mapEnd s.mapEnd) s.ranker.passIndex) with
        ranker := s.ranker.finished
        monitor := mo.countPass s.placers.dl.tiles s.placers.ul.tiles } s.completionEvents
  refine ⟨al', more ++ more', mo', sl, _, rfl, ?_, ?_, ?_, ?_, ?_, ?_, ?_, ?_⟩
  · rw [← List.append_assoc]
    exact h2
  · intro e he
    rcases List.mem_append.mp he with h | h
    · exact hm e h
    · exact hm' e h
  · intro h
    have := hc' (hc h)
    simpa using this
  · rw [q1]; show mo.passes + 1#32 = _; rw [p1]
  · rw [q2]; show mo.dlTiles + _ = _; rw [p2]
  · rw [q3]; show mo.ulTiles + _ = _; rw [p3]
  · exact fun h => q4 (p4 h)
  · exact fun h => q5 (p5 h)

/-! ### Truncation by stage (R97, R98) -/

/-- With no pass in flight there is nothing to truncate. -/
theorem State.truncate_idle (s : State) (c : Cause) (h : s.ranker.stage = .idle) :
    s.truncate c = s := by
  unfold State.truncate
  dsimp only
  split
  · rfl
  · rename_i h'; rw [h] at h'; cases h'
  · rename_i h'; rw [h] at h'; cases h'

/-- A truncation under construction. -/
theorem State.truncate_constructing (s : State) (c : Cause) (h : s.ranker.stage = .constructing) :
    s.truncate c
      = State.truncateConstruction
          { s with ranker := { s.ranker with cause := some (s.ranker.cause.getD c) } } := by
  unfold State.truncate
  dsimp only
  split
  · rename_i h'; rw [h] at h'; cases h'
  · rfl
  · rename_i h'; rw [h] at h'; cases h'

/-- A truncated construction with cause `c` is `State.cutConstruction` and then what waited for the
completion. -/
theorem State.truncateConstruction_eq (s : State) (c : Cause) :
    State.truncateConstruction { s with ranker := { s.ranker with cause := some c } }
      = (s.cutConstruction c).resolveDeferred := rfl

/-- A truncation in placement sets the cause, if none stands, for the Placers to find. -/
theorem State.truncate_placing (s : State) (c : Cause) (h : s.ranker.stage = .placing) :
    s.truncate c
      = { s with ranker := { s.ranker with cause := some (s.ranker.cause.getD c) } } := by
  unfold State.truncate
  dsimp only
  split
  · rename_i h'; rw [h] at h'; cases h'
  · rename_i h'; rw [h] at h'; cases h'
  · rfl

end Sys2Proof.Machine
end

