-- ==== Sys2Proof/WellFormed.lean ====
section
/-! DEFINITION. Which commands are well formed: the checks on operands that their types do not make. -/

namespace Sys2Proof

/-- The operand of a batch step takes at least one entry and no more than a batch can hold (R170: a
count of 0 or above 32 is refused, so a step of a batch that runs takes 1..32 entries; log 4). Every
other operand has exactly the values its type has. `exec` is total and does not rest on this. -/
def Instr.WellFormed : Instr → Bool
  | .qualityBatch n => decide (1 ≤ n ∧ n ≤ Config.maxBatch)
  | .queueBatch n => decide (1 ≤ n ∧ n ≤ Config.maxBatch)
  | .outcomeBatch n => decide (1 ≤ n ∧ n ≤ Config.maxBatch)
  | .receiveByte _ | .framingError | .frameIdleTimeout | .unknownKindRequest | .status | .restart
  | .serviceOn | .serviceOff | .alertClear | .alertMask | .rateTable | .trackSetup | .classProfile
  | .energyTable | .passSetup | .admission | .release | .suspend | .resume | .linkUpdate
  | .subscriberRead | .frameMark | .energyReport | .monitorSetup | .monitorSetupBuffer
  | .counterRead | .captureRead | .traceRead | .traceResume | .messageSent | .powerOn _ _
  | .resetLineAssert | .resetLineRelease _ _ | .restartReset _ _ | .constructSlot
  | .placeCandidate _ _ | .deadlineExpiry | .lineReturnToIdle => true

end Sys2Proof
end

