-- ==== Sys2Proof/Laws/PerInstr.lean ====
section
/-! SUPPORT. For every command: when it is well formed, said by the operand it carries. -/

namespace Sys2Proof

/-- The entry count a command carries as an operand: the batch steps alone carry one (log 4). -/
def Instr.entryCount : Instr → Option Nat
  | .qualityBatch n => some n
  | .queueBatch n => some n
  | .outcomeBatch n => some n
  | .receiveByte _ | .framingError | .frameIdleTimeout | .unknownKindRequest | .status
  | .restart | .serviceOn | .serviceOff | .alertClear | .alertMask | .rateTable
  | .trackSetup | .classProfile | .energyTable | .passSetup | .admission | .release | .suspend
  | .resume | .linkUpdate | .subscriberRead | .frameMark | .energyReport | .monitorSetup
  | .monitorSetupBuffer | .counterRead | .captureRead | .traceRead | .traceResume
  | .messageSent | .powerOn _ _ | .resetLineAssert | .resetLineRelease _ _
  | .restartReset _ _ | .constructSlot | .placeCandidate _ _ | .deadlineExpiry
  | .lineReturnToIdle => none

end Sys2Proof

namespace Sys2Proof.Laws.EntryCount

/-- A command is well formed exactly when the entry count it carries, if it carries one, is 1..32. -/
def Statement (i : Instr) : Prop :=
  i.WellFormed = true ↔ ∀ n, i.entryCount = some n → 1 ≤ n ∧ n ≤ 32

/-- A command without an entry count is always well formed. -/
theorem of_none (i : Instr) (hw : i.WellFormed = true) (hn : i.entryCount = none) : Statement i := by
  refine ⟨fun _ n h => ?_, fun _ => hw⟩
  rw [hn] at h
  cases h

/-- A command whose well-formedness is the range of the entry count it carries. -/
theorem of_some (i : Instr) (n : Nat) (hw : i.WellFormed = decide (1 ≤ n ∧ n ≤ Config.maxBatch))
    (hn : i.entryCount = some n) : Statement i := by
  unfold Statement
  rw [hw, hn, decide_eq_true_eq]
  refine ⟨fun h m hm => ?_, fun h => h n rfl⟩
  cases hm
  exact h

theorem receiveByte (b : Byte) : Statement (.receiveByte b) := of_none _ rfl rfl
theorem framingError : Statement .framingError := of_none _ rfl rfl
theorem frameIdleTimeout : Statement .frameIdleTimeout := of_none _ rfl rfl
theorem unknownKindRequest : Statement .unknownKindRequest := of_none _ rfl rfl
theorem status : Statement .status := of_none _ rfl rfl
theorem restart : Statement .restart := of_none _ rfl rfl
theorem serviceOn : Statement .serviceOn := of_none _ rfl rfl
theorem serviceOff : Statement .serviceOff := of_none _ rfl rfl
theorem alertClear : Statement .alertClear := of_none _ rfl rfl
theorem alertMask : Statement .alertMask := of_none _ rfl rfl
theorem rateTable : Statement .rateTable := of_none _ rfl rfl
theorem trackSetup : Statement .trackSetup := of_none _ rfl rfl
theorem classProfile : Statement .classProfile := of_none _ rfl rfl
theorem energyTable : Statement .energyTable := of_none _ rfl rfl
theorem passSetup : Statement .passSetup := of_none _ rfl rfl
theorem admission : Statement .admission := of_none _ rfl rfl
theorem release : Statement .release := of_none _ rfl rfl
theorem suspend : Statement .suspend := of_none _ rfl rfl
theorem resume : Statement .resume := of_none _ rfl rfl
theorem linkUpdate : Statement .linkUpdate := of_none _ rfl rfl
theorem subscriberRead : Statement .subscriberRead := of_none _ rfl rfl
theorem frameMark : Statement .frameMark := of_none _ rfl rfl
theorem qualityBatch (n : Nat) : Statement (.qualityBatch n) := of_some _ n rfl rfl
theorem queueBatch (n : Nat) : Statement (.queueBatch n) := of_some _ n rfl rfl
theorem outcomeBatch (n : Nat) : Statement (.outcomeBatch n) := of_some _ n rfl rfl
theorem energyReport : Statement .energyReport := of_none _ rfl rfl
theorem monitorSetup : Statement .monitorSetup := of_none _ rfl rfl
theorem monitorSetupBuffer : Statement .monitorSetupBuffer := of_none _ rfl rfl
theorem counterRead : Statement .counterRead := of_none _ rfl rfl
theorem captureRead : Statement .captureRead := of_none _ rfl rfl
theorem traceRead : Statement .traceRead := of_none _ rfl rfl
theorem traceResume : Statement .traceResume := of_none _ rfl rfl
theorem messageSent : Statement .messageSent := of_none _ rfl rfl
theorem powerOn (baud1 : PinLevel) (baud0 : PinLevel) : Statement (.powerOn baud1 baud0) := of_none _ rfl rfl
theorem resetLineAssert : Statement .resetLineAssert := of_none _ rfl rfl
theorem resetLineRelease (baud1 : PinLevel) (baud0 : PinLevel) : Statement (.resetLineRelease baud1 baud0) := of_none _ rfl rfl
theorem restartReset (baud1 : PinLevel) (baud0 : PinLevel) : Statement (.restartReset baud1 baud0) := of_none _ rfl rfl
theorem constructSlot : Statement .constructSlot := of_none _ rfl rfl
theorem placeCandidate (dir : Direction) (begun : Bool) : Statement (.placeCandidate dir begun) := of_none _ rfl rfl
theorem deadlineExpiry : Statement .deadlineExpiry := of_none _ rfl rfl
theorem lineReturnToIdle : Statement .lineReturnToIdle := of_none _ rfl rfl

end Sys2Proof.Laws.EntryCount
end

