-- ==== Sys2Proof/Laws/Placement.lean ====
section
/-! SUPPORT. What the taking of one candidate changes, said once (R111 to R127). -/

namespace Sys2Proof.Machine

/-- What a skip writes beside alerting: the Placer's position and count (R109, R119). -/
def State.skippedAt (s : State) (d : Direction) : State :=
  { s with placers := s.placers.put d (s.placers.get d).skipped }

/-- A skip (R112, R118, R127). -/
theorem State.onlyTable_skipCandidate (s : State) (d : Direction) (c : Candidate) (k : EventKind)
    (r : TraceResult) (tiles : Nat) :
    (s.skippedAt d).OnlyTable (s.skipCandidate d c k r tiles) :=
  State.onlyTable_takeEvent (s.skippedAt d) _ _

/-- The layout a grant of `t` tiles takes (R120, R121). -/
def State.layoutFor (s : State) (d : Direction) (c : Candidate) (t : Nat) : Layout :=
  layOut (s.placers.get d) t (match d with | .dl => false | .ul => c.extended)

/-- What a grant writes beside records, alerting and the grant section: the slot view, the Placer and, on
the downlink, the budget (R119, R123, R124). -/
def State.grantedAt (s : State) (d : Direction) (c : Candidate) (t : Nat) : State :=
  State.spend
    { s with
      ranker :=
        { s.ranker with
          views :=
            s.ranker.views.setIfInBounds c.handle.slot
              ((s.view c.handle.slot).granted d t (c.payload t)) }
      placers := s.placers.put d ((s.placers.get d).granted t (s.layoutFor d c t)) }
    d (t * c.dlCost)

/-- A grant (R122 to R127): at most one WAITING chunk of the assembler's pass joins the grant section. -/
theorem State.grantCandidate_footprint (s : State) (d : Direction) (c : Candidate) (u : Subscriber)
    (t : Nat) :
    ∃ more rs q,
      State.OnlyTable
          { s.grantedAt d c t with
            notices :=
              { s.notices with
                grants := s.notices.grants ++ more
                assemblers :=
                  s.notices.assemblers.put d
                    { s.notices.assemblers.get d with pending := rs, seq := q } } }
          (s.grantCandidate d c u t)
        ∧ ∀ e ∈ more, e.mark = .waiting ∧ e.passIndex = (s.notices.assemblers.get d).passIndex := by
  cases d with
  | dl =>
    obtain ⟨more, rs, q, h, hm⟩ := State.handRecord_shape
      (State.spend
        (State.putPlacer
          (State.putView (s.putSub c.handle.slot (s.grantedRecord u c .dl t)) c.handle.slot
            ((s.view c.handle.slot).granted .dl t (c.payload t)))
          .dl ((s.placers.get .dl).granted t (s.layoutFor .dl c t)))
        .dl (t * c.dlCost))
      .dl (s.grantRecord c .dl t (s.layoutFor .dl c t))
    refine ⟨more, rs, q, ?_, hm⟩
    have h2 : s.grantCandidate .dl c u t
        = State.reportDecision
            (State.handRecord
              (State.spend
                (State.putPlacer
                  (State.putView (s.putSub c.handle.slot (s.grantedRecord u c .dl t)) c.handle.slot
                    ((s.view c.handle.slot).granted .dl t (c.payload t)))
                  .dl ((s.placers.get .dl).granted t (s.layoutFor .dl c t)))
                .dl (t * c.dlCost))
              .dl (s.grantRecord c .dl t (s.layoutFor .dl c t)))
            .dl c (grantEvent c.kind).1 (grantEvent c.kind).2 t := rfl
    rw [h2, h]
    exact (State.onlyTable_putSub _ c.handle.slot (s.grantedRecord u c .dl t)).trans
      (State.onlyTable_takeEvent _ _ _)
  | ul =>
    obtain ⟨more, rs, q, h, hm⟩ := State.handRecord_shape
      (State.putPlacer
        (State.putView (s.putSub c.handle.slot (s.grantedRecord u c .ul t)) c.handle.slot
          ((s.view c.handle.slot).granted .ul t (c.payload t)))
        .ul ((s.placers.get .ul).granted t (s.layoutFor .ul c t)))
      .ul (s.grantRecord c .ul t (s.layoutFor .ul c t))
    refine ⟨more, rs, q, ?_, hm⟩
    have h2 : s.grantCandidate .ul c u t
        = State.reportDecision
            (State.handRecord
              (State.putPlacer
                (State.putView (s.putSub c.handle.slot (s.grantedRecord u c .ul t)) c.handle.slot
                  ((s.view c.handle.slot).granted .ul t (c.payload t)))
                .ul ((s.placers.get .ul).granted t (s.layoutFor .ul c t)))
              .ul (s.grantRecord c .ul t (s.layoutFor .ul c t)))
            .ul c (grantEvent c.kind).1 (grantEvent c.kind).2 t := rfl
    rw [h2, h]
    exact (State.onlyTable_putSub _ c.handle.slot (s.grantedRecord u c .ul t)).trans
      (State.onlyTable_takeEvent _ _ _)

/-- A candidate taken comes to one of three things: the end of the Placer on an empty pool, a skip, or a
grant of the tile count against the pool and the budget (R111 to R118). -/
theorem State.placeCandidate_cases (s : State) (d : Direction) (c : Candidate) :
    (s.placeCandidate d c = s.endPlacer d .poolEmpty ∧ (s.placers.get d).pool = 0)
      ∨ (∃ k r tiles, s.placeCandidate d c = s.skipCandidate d c k r tiles)
      ∨ ∃ u t, s.placeCandidate d c = s.grantCandidate d c u t
          ∧ s.liveCandidate c = some u
          ∧ c.tileCount d (s.placers.get d).pool s.dlBudget = .grant t
          ∧ (s.placers.get d).pool ≠ 0 := by
  unfold State.placeCandidate
  split
  · exact .inr (.inl ⟨_, _, _, rfl⟩)
  · rename_i u hu
    split
    · rename_i hp
      exact .inl ⟨rfl, hp⟩
    · rename_i hp
      split
      · exact .inr (.inl ⟨_, _, _, rfl⟩)
      · exact .inr (.inl ⟨_, _, _, rfl⟩)
      · rename_i t ht
        exact .inr (.inr ⟨u, t, rfl, hu, ht, hp⟩)

/-- A grant takes no more than the pool holds, and on the downlink no more than the budget pays for
(R116, R117, R123). -/
theorem Candidate.tileCount_le (c : Candidate) (d : Direction) (pool budget t : Nat)
    (h : c.tileCount d pool budget = .grant t) :
    t ≤ pool ∧ (d = .dl → t * c.dlCost ≤ budget) := by
  unfold Candidate.tileCount Candidate.sliverRule at h
  cases d with
  | dl =>
    dsimp only at h
    split at h
    · cases h
    · split at h
      · cases h
      · cases h
        refine ⟨by omega, fun _ => ?_⟩
        calc min (min (c.want .dl) (budget / c.dlCost)) pool * c.dlCost
            ≤ (budget / c.dlCost) * c.dlCost := Nat.mul_le_mul_right _ (by omega)
          _ ≤ budget := Nat.div_mul_le_self _ _
  | ul =>
    dsimp only at h
    split at h
    · cases h
    · split at h
      · cases h
      · cases h
        exact ⟨by omega, fun hd => by cases hd⟩

end Sys2Proof.Machine
end

