-- ==== Sys2Proof/Tests/Slice0.lean ====
section
/-! SUPPORT. Tests on small states: the manual's worked examples, what each command answers at the edges of
its operands, and, for every obligation with hypotheses, a state that meets them (named test_meets_…). -/

namespace Sys2Proof.Tests

set_option Elab.async false

open Sys2Proof Sys2Proof.Machine

/-! ### Helpers -/

/-- The state a step leaves, `s` itself should it stop. -/
def after (c : Instr) (s : State) : State :=
  match exec c s with
  | .next t => t
  | .fault _ => s
  | .refused _ => s

/-- The state with one accepted frame, of tag 21. -/
def given (s : State) (kind : Byte) (body : List Byte) : State :=
  { s with link := { s.link with accepted := [⟨kind, 0x21#8, body⟩] } }

/-- The answer a command gives to a frame. -/
def answerTo (s : State) (c : Instr) (kind : Byte) (body : List Byte) : Option Answer :=
  (after c (given s kind body)).link.answers.getLast?

/-- The result code a command answers a frame with. -/
def ask (s : State) (c : Instr) (kind : Byte) (body : List Byte) : Option Result :=
  (answerTo s c kind body).map Answer.result

/-- The data a command answers a frame with. -/
def dataTo (s : State) (c : Instr) (kind : Byte) (body : List Byte) : Option AnswerData :=
  (answerTo s c kind body).map Answer.data

/-- A frame is the oldest accepted frame of a state that may take it up, and `P` holds of the two. -/
def Meets (s : State) (kind : Byte) (body : List Byte) (P : State → Frame → Prop) : Prop :=
  (given s kind body).TakesUp ⟨kind, 0x21#8, body⟩ ∧ P (given s kind body) ⟨kind, 0x21#8, body⟩

/-- A track after admission at a quality. -/
def trackAt (q : Nat) : Track :=
  { f := 16 * q, l := 16 * q, fade := .steady, debounce := 0, fadeSamples := 0, settle := 0,
    offset := 0, poor := 0, lastSample := 40#32, aRef := none }

/-- An unwritten history entry. -/
def blank : HistoryEntry := ⟨false, 0#16, .data, 0, 0, .pending⟩

/-- An empty service group. -/
def serviceAt (avg : Nat) (credit : Int) : Service :=
  { avg := avg, credit := credit, starve := 0, shortfall := 0, lastGrant := none }

/-- A subscriber of a class, ACTIVE, with data waiting both ways. -/
def member (cls : Fin 8) : Subscriber :=
  { life := .active, cls := cls, dlCost := 40, ulCap := 8, timing := 400, anchor := none,
    anchorWeight := 8, admitIndex := 30#32, alerts := 0#7, tracks := .both (trackAt 50),
    demand := .both ⟨500, some 997#16, #v[blank, blank, blank, blank]⟩,
    service := .both (serviceAt 0 0) }

/-- The part in SERVICE after pass 50 of frame 1000: 3:1 is ACTIVE, 4:2 LOST and anchored on 3:1, 5:1
SUSPENDED. TXD is busy with the notice of RESTARTED, whose alert has been cleared. -/
def serving : State :=
  { State.reset with
    link := { State.reset.link with device := .service, alerts := 0#10 }
    slots :=
      ((State.reset.slots.set 3 ⟨1#8, some (member 0)⟩).set 4
        ⟨2#8, some { member 0 with life := .lost, anchor := some ⟨3, 1#8⟩ }⟩).set 5
        ⟨1#8, some { member 0 with life := .suspended }⟩
    ranker := { State.reset.ranker with passIndex := 50#32, newest := some 1000#16 }
    monitor := { State.reset.monitor with passes := 50#32 } }

/-- The part in CONFIG with RESTARTED cleared. -/
def configured : State :=
  { State.reset with link := { State.reset.link with alerts := 0#10 } }

/-- The pass of frame 1000 under construction, at slot `n`. -/
def building (n : Nat) : State :=
  { serving with
    ranker := { serving.ranker with stage := .constructing, timer := .running, nextSlot := n } }

/-- A candidate of 3:1. -/
def candidate (kind : GrantKind) (backlog : Nat) : Candidate :=
  { handle := ⟨3, 1#8⟩, kind := kind, cls := 0, tier := 2, key := .metric 55, rateStep := 6, r := 60,
    fade := .steady, backlog := backlog, maxTiles := 12, minTiles := 2, dlCost := 40, ulCap := 8,
    extended := true }

/-- The pass of frame 1000 in placement, one carrier, both lists `list`, the downlink budget 2000. -/
def placingList (list : List Candidate) : State :=
  { serving with
    ranker :=
      { serving.ranker with
        stage := .placing, timer := .running, allowance := ⟨2000, 1, 5⟩, lists := .both list
        views := serving.ranker.views.set 3 ⟨some ⟨3, 1#8⟩, true, ⟨500, 500⟩, ⟨none, none⟩⟩ }
    placers := .both (startedPlacer list 1)
    dlBudget := 2000
    notices :=
      { serving.notices with assemblers := .both (openedAssembler 1000#16 50#32 8) } }

/-- The pass in placement, with one data candidate on each list. -/
def placing : State := placingList [candidate .data 500]

/-- The placing state with a truncation standing. -/
def cutShort : State := { placing with ranker := { placing.ranker with cause := some .preempted } }

/-- The state with the RESET line active. -/
def held : State := { serving with link := { serving.link with resetHeld := true } }

/-! ### Frames and the CRC -/

/-- R186: the CRC over the ASCII digits 1 to 9. -/
theorem test_crc_check_value :
    crc [0x31#8, 0x32#8, 0x33#8, 0x34#8, 0x35#8, 0x36#8, 0x37#8, 0x38#8, 0x39#8] = 0x29B1#16 := by
  decide +kernel

/-- A frame received byte by byte is accepted, and its last byte returns the receiver to HUNT (R165, R167). -/
theorem test_receive_status_frame :
    let t := (frameBytes 0x01#8 0x21#8 []).foldl (fun s b => after (.receiveByte b) s) State.reset
    t.link.accepted = [⟨0x01#8, 0x21#8, []⟩] ∧ t.link.rx = .hunt := by
  decide +kernel

/-- The record of subscriber C of the worked case, given the handle 7:2 (10 section 10.7). -/
theorem test_grant_record_bytes :
    grantBytes ⟨1000#16, .dl, ⟨7, 2#8⟩, 2, .data, 6, ⟨0, 0, 9, false⟩, none, 500⟩
      = [0x07#8, 0x02#8, 2#8, 0#8, 6#8, 0#8, 0#8, 0#8, 9#8, 0#8, 0#8, 0#8, 0x01#8, 0xF4#8] := by
  decide +kernel

/-- The lengths of the longest layouts: a record 168, counters 84, a capture 33, a chunk of 16 229 (10). -/
theorem test_layout_lengths :
    (recordBytes ⟨⟨3, 1#8⟩, member 0, false, .both 0, .both 800, .both 6⟩).length = 168
      ∧ (snapshotBytes none).length = 25 ∧ (demandBytes (member 0).demand.dl).length = 39
      ∧ (trackBytes (trackAt 50) 0 800 6).length = 21
      ∧ (monitorBytes resetMonitor).length = 17 := by
  decide +kernel

/-! ### Well-formedness -/

/-- A batch step of 0 or 33 entries is ill formed; 1 and 32 are well formed. -/
theorem test_wellFormed_batch :
    ([Instr.qualityBatch 0, .qualityBatch 33, .queueBatch 0, .queueBatch 33, .outcomeBatch 0,
        .outcomeBatch 33].map Instr.WellFormed).all (· = false)
      ∧ ([Instr.qualityBatch 1, .qualityBatch 32, .queueBatch 1, .queueBatch 32, .outcomeBatch 1,
        .outcomeBatch 32, .status].map Instr.WellFormed).all (· = true) := by
  decide

/-! ### The queue -/

/-- On an empty queue the part idles (log 2). -/
theorem test_idle_step (s : State) : step (s.withPending []) = .next (s.withPending []) := rfl

/-- A step takes the front command and leaves the rest. -/
theorem test_step_takes_front :
    (match step (held.withPending [.lineReturnToIdle, .status]) with
      | .next t => t.pending
      | _ => []) = [.status] := by
  decide +kernel

/-! ### Reception -/

/-- The inbound buffer filled to its 4096 bytes by four frames of the largest size (R168). -/
def fullBuffer : State :=
  { serving with
    link :=
      { serving.link with
        accepted := List.replicate 4 ⟨0x01#8, 0#8, List.replicate 1020 0#8⟩, rx := .header [] } }

/-- The same with one byte free: the third header byte is stored, the fourth overruns. -/
def almostFull : State :=
  { fullBuffer with
    link :=
      { fullBuffer.link with
        accepted := List.replicate 3 ⟨0x01#8, 0#8, List.replicate 1020 0#8⟩
        rx := .body 0x01#8 0#8 1020 (List.replicate 1019 0#8) } }

theorem test_meets_ReceiverHunts :
    ¬held.Hears ∧ (serving.Hears ∧ serving.link.rx = .hunt)
      ∧ ((serving.putRx .sync).Hears ∧ (serving.putRx .sync).link.rx = .sync) := by
  unfold State.Hears; decide +kernel

theorem test_hunt_moves :
    (after (.receiveByte 0xC3#8) serving).link.rx = .sync
      ∧ (after (.receiveByte 0x3C#8) serving).link.rx = .hunt
      ∧ (after (.receiveByte 0x3C#8) (serving.putRx .sync)).link.rx = .header []
      ∧ (after (.receiveByte 0xC3#8) (serving.putRx .sync)).link.rx = .sync
      ∧ (after (.receiveByte 0x00#8) (serving.putRx .sync)).link.rx = .hunt := by
  decide +kernel

theorem test_meets_ReceiverStoresFrame :
    ((serving.putRx (.header [1#8, 2#8])).Hears
        ∧ (serving.putRx (.header [1#8, 2#8])).link.occupied < 4096)
      ∧ (almostFull.Hears ∧ almostFull.link.occupied = 4095)
      ∧ (fullBuffer.Hears ∧ 4096 ≤ fullBuffer.link.occupied ∧ fullBuffer.link.rx = .header []) := by
  unfold State.Hears; decide +kernel

/-- Lengths 1020, 1021 and 0 at the fourth header byte (R166). -/
theorem test_header_length_edges :
    (after (.receiveByte 0xFC#8) (serving.putRx (.header [1#8, 2#8, 3#8]))).link.rx
        = .body 1#8 2#8 1020 []
      ∧ (after (.receiveByte 0xFD#8) (serving.putRx (.header [1#8, 2#8, 3#8]))).link.rx = .hunt
      ∧ (after (.receiveByte 0xFD#8) (serving.putRx (.header [1#8, 2#8, 3#8]))).hasAlert .linkFraming
        = true
      ∧ (after (.receiveByte 0#8) (serving.putRx (.header [1#8, 2#8, 0#8]))).link.rx
        = .check 1#8 2#8 [] none := by
  decide +kernel

/-- The last byte that fits and the first that does not (R168). -/
theorem test_buffer_edges :
    ((after (.receiveByte 0#8) almostFull).hasAlert .linkOverrun = false
        ∧ (after (.receiveByte 0#8) almostFull).link.occupied = 4096)
      ∧ (after (.receiveByte 0#8) fullBuffer).hasAlert .linkOverrun = true := by
  decide +kernel

theorem test_meets_ReceiverJudgesCrc :
    ((serving.putRx (.check 1#8 2#8 [] none)).Hears
        ∧ (serving.putRx (.check 1#8 2#8 [] none)).link.rx = .check 1#8 2#8 [] none)
      ∧ (serving.putRx (.check 1#8 2#8 [] (some 0#8))).Hears := by
  unfold State.Hears; decide +kernel

/-- A frame whose CRC differs is discarded and LINK_CRC latched (R167). -/
theorem test_crc_differs :
    let t := after (.receiveByte 0#8) (serving.putRx (.check 1#8 2#8 [] (some 0#8)))
    t.link.rx = .hunt ∧ t.link.accepted = [] ∧ t.hasAlert .linkCrc = true := by
  decide +kernel

theorem test_meets_LineFaultsDiscardTheFrame :
    let inside := serving.putRx (.header [1#8])
    (inside.link.resetHeld = false ∧ inside.link.restart = .none ∧ inside.link.rx.inFrame = true
        ∧ inside.link.rxAwaitIdle = false)
      ∧ (serving.link.resetHeld = false ∧ serving.link.rx.inFrame = false
        ∧ serving.link.rxAwaitIdle = false) := by
  decide +kernel

theorem test_line_faults :
    let inside := serving.putRx (.header [1#8])
    ((after .framingError inside).hasAlert .linkFraming = true
        ∧ (after .framingError inside).link.rxAwaitIdle = true
        ∧ (after .frameIdleTimeout inside).hasAlert .linkFraming = true)
      ∧ (after .framingError serving).hasAlert .linkFraming = false
      ∧ (after .frameIdleTimeout (serving.putRx .sync)).link.rx = .hunt
      ∧ (after .lineReturnToIdle (after .framingError inside)).link.rxAwaitIdle = false := by
  decide +kernel

/-! ### Alerts -/

/-- The general section holding 24 notices, its head SENDING. -/
def fullSection : State :=
  { serving with
    notices :=
      { serving.notices with
        general := ⟨restartedNotice, .sending⟩ :: List.replicate 23 ⟨restartedNotice, .waiting⟩ } }

theorem test_meets_DeviceAlertLatches :
    State.reset.hasAlert .restarted = true ∧ serving.hasAlert .linkCrc = false
      ∧ (fullSection.masked (.device .linkCrc) = false ∧ fullSection.notices.general.length = 24) := by
  decide +kernel

/-- A full general section drops the notice and latches NOTICE_LOST (R142). -/
theorem test_notice_dropped :
    let t := fullSection.latchDevice .linkCrc none
    t.hasAlert .linkCrc = true ∧ t.hasAlert .noticeLost = true ∧ t.notices.general.length = 24 := by
  decide +kernel

theorem test_meets_SubscriberAlertLatches :
    (serving.slot 3).sub = some (member 0) ∧ (member 0).hasMember .lost = false
      ∧ ({ member 0 with alerts := 1#7 } : Subscriber).hasMember .lost = true := by
  decide +kernel

theorem test_member_latched :
    let t := serving.latchMember 3 (.starved .ul)
    ((t.slot 3).sub.map (·.hasMember (.starved .ul))) = some true
      ∧ t.notices.general.length = 2 ∧ t.alertLine = true ∧ serving.alertLine = false := by
  decide +kernel

/-! ### The outbound side -/

/-- A free line with a WAITING notice in each section. -/
def freeLine : State :=
  { serving with
    link := { serving.link with tx := none }
    notices :=
      { serving.notices with
        grants := [⟨.chunk ⟨1000#16, .dl, 0, []⟩, .waiting, 50#32⟩]
        general := [⟨restartedNotice, .waiting⟩] } }

/-- An answer. -/
def anAnswer : Answer := ⟨0x01#8, 0#8, .ok, State.reset.summary, .empty⟩

/-- The line sending the head of the answer queue. -/
def sendingAnswer : State :=
  { serving with
    link := { serving.link with tx := some ⟨.answers, answerFrame anAnswer⟩, answers := [anAnswer] }
    notices := { serving.notices with general := [] } }

/-- The line sending a chunk. -/
def sendingChunk : State :=
  { serving with
    link :=
      { serving.link with tx := some ⟨.grants, grantNoticeFrame (.chunk ⟨1000#16, .dl, 0, []⟩)⟩ }
    notices :=
      { serving.notices with
        grants := [⟨.chunk ⟨1000#16, .dl, 0, []⟩, .sending, 50#32⟩], general := [] } }

theorem test_meets_ArbiterChoosesBest :
    (serving.link.resetHeld = false ∧ serving.link.restart ≠ .resetDue ∧ serving.link.tx.isSome = true)
      ∧ (freeLine.link.resetHeld = false ∧ freeLine.link.restart ≠ .resetDue
        ∧ freeLine.link.tx = none ∧ freeLine.link.answers = []
        ∧ freeLine.notices.grants = [⟨.chunk ⟨1000#16, .dl, 0, []⟩, .waiting, 50#32⟩])
      ∧ ∀ e, ({ freeLine.notices with grants := [] } : Notices).grants.head? = some e →
          e.mark = .sending := by
  refine ⟨by decide +kernel, by decide +kernel, fun e h => by cases h⟩

theorem test_arbiter_order :
    freeLine.arbitrate.link.tx.map Transmission.source = some .grants
      ∧ (State.arbitrate { freeLine with link := { freeLine.link with answers := [anAnswer] } }).link.tx.map
          Transmission.source = some .answers
      ∧ (State.arbitrate
          { freeLine with notices := { freeLine.notices with grants := [] } }).link.tx.map
          Transmission.source = some .general := by
  decide +kernel

theorem test_meets_MessageSentLeavesItsSource :
    freeLine.link.tx = none
      ∧ sendingAnswer.link.tx = some ⟨.answers, answerFrame anAnswer⟩
      ∧ (∃ b, sendingChunk.link.tx = some ⟨.grants, b⟩)
      ∧ ∃ b, serving.link.tx = some ⟨.general, b⟩ :=
  ⟨rfl, rfl, ⟨_, rfl⟩, ⟨_, rfl⟩⟩

/-- After the answer of an accepted RESTART the reset is due; RESTART_RESET then takes it (R178). -/
theorem test_restart_runs_out :
    let s : State :=
      { sendingAnswer with link := { sendingAnswer.link with restart := .answerQueued } }
    let t := after .messageSent s
    t.link.restart = .resetDue ∧ t.link.tx = none
      ∧ (after (.restartReset .low .high) t).link.lineRate = .mbaud6
      ∧ (after (.restartReset .low .high) t).hasAlert .restarted = true := by
  decide +kernel

/-! ### Commands that cannot occur (log 1) -/

/-- A frame of a kind at the head, and no frame may be taken up. -/
def StandsBack (s : State) (kind : Byte) : Prop :=
  (s.link.accepted.head?.map Frame.kind) = some kind ∧ ∀ f, ¬s.TakesUp f

/-- A MONITOR_SETUP of the target given, with settings that both of its commands allow. -/
def setupOf (target : Byte) : List Byte := target :: List.replicate 12 0#8

/-- Each ground on which a request's step cannot occur: 16 answers, a decoding that waits, one of a batch,
an accepted RESTART, the RESET line, a head of another kind, no frame; and the other commands' grounds. -/
theorem test_meets_EveryCommandCompletes :
    StandsBack
        (given { serving with link := { serving.link with answers := List.replicate 16 anAnswer } } 0x01#8 [])
        0x01#8
      ∧ StandsBack (given { serving with link := { serving.link with decoding := .serviceOff } } 0x04#8 [])
        0x04#8
      ∧ StandsBack
        (given { serving with link := { serving.link with decoding := .batch ⟨1, 1, []⟩ } } 0x19#8 [2#8]) 0x19#8
      ∧ StandsBack (given { serving with link := { serving.link with restart := .answerQueued } } 0x02#8 [])
        0x02#8
      ∧ StandsBack (given held 0x1A#8 []) 0x1A#8
      ∧ Meets serving 0x01#8 [] (fun _ f => f.kind ≠ 0x03#8 ∧ f.kind ∈ fixedRequests.map (·.2.1))
      ∧ (serving.link.accepted = [] ∧ ∀ f, ¬serving.TakesUp f)
      ∧ Meets serving 0x20#8 (setupOf 4#8) (fun _ f => f.body.length = 13 ∧ num1 f.body 0 = 4)
      ∧ Meets serving 0x20#8 (setupOf 3#8) (fun _ f => ¬(f.body.length = 13 ∧ num1 f.body 0 = 4))
      ∧ (serving.ranker.stage ≠ .constructing ∧ serving.ranker.stage ≠ .placing)
      ∧ (cutShort.ranker.stage = .placing
        ∧ ((cutShort.putPlacer .dl resetPlacer).placers.get .dl).stage ≠ .running)
      ∧ (held.link.resetHeld = true
        ∧ { serving.link with rxAwaitIdle := true }.rxAwaitIdle = true) := by
  simp only [Meets, StandsBack, State.TakesUp]
  refine ⟨⟨rfl, fun f h => ?_⟩, ⟨rfl, fun f h => ?_⟩, ⟨rfl, fun f h => ?_⟩, ⟨rfl, fun f h => ?_⟩,
    ⟨rfl, fun f h => ?_⟩, by decide +kernel, ⟨rfl, fun f h => ?_⟩, by decide +kernel, by decide +kernel,
    by decide +kernel, by decide +kernel, by decide +kernel⟩
  · exact absurd h.2.2.1 (by decide)
  · exact absurd h.2.2.2.1 (by decide)
  · exact absurd h.2.2.2.1 (by decide)
  · exact absurd h.2.1 (by decide)
  · exact absurd h.1 (by decide)
  · cases h.2.2.2.2

/-- In each of those states the request leaves everything as it is, its frame with it. -/
theorem test_request_waits :
    (let s := given { serving with link := { serving.link with answers := List.replicate 16 anAnswer } } 0x01#8 []
     after .status s = s)
      ∧ (let s := given { serving with link := { serving.link with decoding := .serviceOff } } 0x04#8 []
         after .serviceOff s = s)
      ∧ (let s := given held 0x1A#8 [0#8]
         after (.queueBatch 1) s = s)
      ∧ (let s := given serving 0x20#8 (setupOf 4#8)
         after .monitorSetup s = s ∧ after .monitorSetupBuffer s ≠ s) := by
  decide +kernel

/-! ### Refusals before the block (R170) -/

theorem test_meets_WrongKindOrLengthRefused :
    Meets serving 0x07#8 []
        (fun _ f => f.kind ∉ fixedRequests.map (fun r => r.2.1) ++ batchRequests.map (fun r => r.2.1))
      ∧ Meets serving 0x01#8 [0#8]
        (fun _ f => (Instr.status, 0x01#8, 0) ∈ fixedRequests ∧ f.kind = 0x01#8 ∧ f.body.length ≠ 0) := by
  simp only [Meets, State.TakesUp]; decide +kernel

/-- The kind codes the table leaves out, and lengths one short and one long. -/
theorem test_kind_and_length_refused :
    ask serving .unknownKindRequest 0x07#8 [] = some .unknownKind
      ∧ ask serving .unknownKindRequest 0x00#8 [] = some .unknownKind
      ∧ ask serving .unknownKindRequest 0x81#8 [] = some .unknownKind
      ∧ ask serving .alertMask 0x06#8 [0#8] = some .badLength
      ∧ ask serving .alertMask 0x06#8 [0#8, 0#8, 0#8] = some .badLength := by
  decide +kernel

/-- A queue entry of 3:1, downlink, stamp 997, count 1500. -/
def queueBytes (dir : Byte) : List Byte :=
  [3#8, 1#8, dir, 0x03#8, 0xE5#8, 0#8, 0#8, 0x05#8, 0xDC#8]

theorem test_meets_MisshapenBatchRefused :
    Meets serving 0x1A#8 [] (fun _ f => f.body = [])
      ∧ Meets serving 0x1A#8 (0#8 :: queueBytes 0#8) (fun _ f => num1 f.body 0 = 0)
      ∧ Meets serving 0x1A#8 (33#8 :: queueBytes 0#8) (fun _ f => 32 < num1 f.body 0)
      ∧ Meets serving 0x1A#8 (32#8 :: queueBytes 0#8) (fun _ f => f.body.length ≠ 1 + 9 * 32)
      ∧ Meets serving 0x1A#8 (1#8 :: queueBytes 2#8)
        (fun _ f => f.body.length = 1 + 9 * 1 ∧ 1 < num1 f.body.tail (9 * 0 + 2))
      ∧ Meets serving 0x1B#8 [1#8, 3#8, 1#8, 0#8, 0x03#8, 0xE8#8, 2#8]
        (fun _ f => 1 < num1 f.body.tail (6 * 0 + 5)) := by
  simp only [Meets, State.TakesUp]; decide +kernel

theorem test_batch_shapes :
    ask serving (.queueBatch 1) 0x1A#8 [] = some .badLength
      ∧ ask serving (.queueBatch 1) 0x1A#8 (0#8 :: queueBytes 0#8) = some .badField
      ∧ ask serving (.queueBatch 1) 0x1A#8 (33#8 :: queueBytes 0#8) = some .badField
      ∧ ask serving (.queueBatch 1) 0x1A#8 (32#8 :: queueBytes 0#8) = some .badLength
      ∧ ask serving (.queueBatch 1) 0x1A#8 (1#8 :: queueBytes 2#8) = some .badField
      ∧ ask serving (.outcomeBatch 1) 0x1B#8 [1#8, 3#8, 1#8, 0#8, 0x03#8, 0xE8#8, 2#8]
        = some .badField
      ∧ ask serving (.queueBatch 1) 0x1A#8 (1#8 :: queueBytes 1#8) = some .ok := by
  decide +kernel

theorem test_meets_DeviceStateRefusals :
    Meets placing 0x02#8 [] (fun s _ => s.ranker.stage ≠ .idle)
      ∧ Meets serving 0x03#8 [] (fun s _ => s.link.device = .service)
      ∧ Meets State.reset 0x03#8 [] (fun s _ => s.hasAlert .restarted = true)
      ∧ Meets configured 0x04#8 [] (fun s _ => s.link.device = .config)
      ∧ Meets serving 0x08#8 (zeros 24) (fun s f => f.body.length = 24 ∧ s.link.device = .service)
      ∧ Meets configured 0x18#8 (zeros 2) (fun s f => f.body.length = 2 ∧ s.link.device = .config) := by
  simp only [Meets, State.TakesUp]; decide +kernel

theorem test_state_refusals :
    ask placing .restart 0x02#8 [] = some .busy
      ∧ ask serving .serviceOn 0x03#8 [] = some .wrongState
      ∧ ask State.reset .serviceOn 0x03#8 [] = some .wrongState
      ∧ ask configured .serviceOff 0x04#8 [] = some .wrongState
      ∧ ask serving .rateTable 0x08#8 (zeros 24) = some .wrongState
      ∧ ask configured .frameMark 0x18#8 (zeros 2) = some .wrongState := by
  decide +kernel

/-! ### The Link Interface's requests -/

theorem test_meets_StatusShowsSummary :
    Meets serving 0x01#8 [] (fun _ f => f.kind = 0x01#8 ∧ f.body = [])
      ∧ serving.energy.table.carriers[serving.energy.segment - 1]? = some 1 := by
  simp only [Meets, State.TakesUp]; decide +kernel

/-- The summary after reset, step 1 of the bring-up (11 section 11.1). -/
theorem test_status_after_reset :
    (answerTo State.reset .status 0x01#8 []).map Answer.summary
      = some ⟨.config, false, none, 5, 1, 4000, 0, 1#10, false⟩ := by
  decide +kernel

/-- The last mask of fourteen bits and the first beyond; a directional kind with a handle, a device kind with
one, a dead handle (R182, R184). -/
theorem test_meets_AlertMaskAndClear :
    Meets serving 0x06#8 [0x3F#8, 0xFF#8] (fun _ f => f.body.length = 2 ∧ num2 f.body 0 < 2 ^ 14)
      ∧ Meets serving 0x06#8 [0x40#8, 0x00#8] (fun _ f => 2 ^ 14 ≤ num2 f.body 0)
      ∧ Meets serving 0x05#8 [0#8, 1#8, 2#8, 0#8, 0#8] (fun _ f => 1 < num1 f.body 2)
      ∧ Meets serving 0x05#8 [0x3F#8, 0xFF#8, 0#8, 0#8, 0#8]
        (fun _ f => num2 f.body 0 < 2 ^ 14 ∧ num1 f.body 2 = 0)
      ∧ Meets serving 0x05#8 [0x08#8, 0#8, 1#8, 96#8, 0#8]
        (fun _ f => num1 f.body 2 = 1 ∧ 95 < (handleAtOffset f.body 3).slot)
      ∧ Meets serving 0x05#8 [0x02#8, 0#8, 1#8, 3#8, 1#8] (fun _ f => num2 f.body 0 % 2 ^ 10 ≠ 0)
      ∧ Meets serving 0x05#8 [0x04#8, 0#8, 1#8, 95#8, 0#8]
        (fun s f => num2 f.body 0 % 2 ^ 10 = 0 ∧ s.lookup (handleAtOffset f.body 3) = none)
      ∧ Meets serving 0x05#8 [0x04#8, 0#8, 1#8, 3#8, 1#8]
        (fun s f => s.lookup (handleAtOffset f.body 3) = some (member 0)) := by
  simp only [Meets, State.TakesUp]; decide +kernel

theorem test_alert_requests :
    ask serving .alertMask 0x06#8 [0x3F#8, 0xFF#8] = some .ok
      ∧ ask serving .alertMask 0x06#8 [0x40#8, 0x00#8] = some .badField
      ∧ ask State.reset .alertClear 0x05#8 [0#8, 1#8, 0#8, 0#8, 0#8] = some .ok
      ∧ (after .alertClear (given State.reset 0x05#8 [0#8, 1#8, 0#8, 0#8, 0#8])).alertLine = false
      ∧ ask serving .alertClear 0x05#8 [0x08#8, 0#8, 1#8, 96#8, 0#8] = some .badField
      ∧ ask serving .alertClear 0x05#8 [0x02#8, 0#8, 1#8, 3#8, 1#8] = some .badField
      ∧ ask serving .alertClear 0x05#8 [0x04#8, 0#8, 1#8, 95#8, 0#8] = some .unknownHandle
      ∧ ask serving .alertClear 0x05#8 [0x04#8, 0#8, 1#8, 3#8, 1#8] = some .ok := by
  decide +kernel

theorem test_meets_ServiceOnEntersService :
    Meets configured 0x03#8 []
      (fun s f => f.body = [] ∧ s.link.device = .config ∧ s.hasAlert .restarted = false) := by
  simp only [Meets, State.TakesUp]; decide +kernel

theorem test_service_on :
    ask configured .serviceOn 0x03#8 [] = some .ok
      ∧ (after .serviceOn (given configured 0x03#8 [])).link.device = .service := by
  decide +kernel

theorem test_meets_ServiceOffEntersConfig :
    Meets serving 0x04#8 [] (fun s _ => s.PassInv ∧ s.link.device = .service ∧ s.ranker.stage = .idle)
      ∧ Meets placing 0x04#8 []
        (fun s _ => s.PassInv ∧ s.link.device = .service ∧ s.ranker.stage = .placing)
      ∧ Meets (building 0) 0x04#8 []
        (fun s _ => s.PassInv ∧ s.link.device = .service ∧ s.ranker.stage = .constructing)
      ∧ (let s := after .serviceOff (given placing 0x04#8 [])
         s.link.decoding = .serviceOff ∧ s.link.accepted.head? = some ⟨0x04#8, 0x21#8, []⟩) := by
  simp only [Meets, State.TakesUp, State.PassInv, placerInPass]
  and_intros <;> decide +kernel

theorem test_service_off :
    ask serving .serviceOff 0x04#8 [] = some .ok
      ∧ (after .serviceOff (given placing 0x04#8 [])).link.decoding = .serviceOff
      ∧ (after .serviceOff (given placing 0x04#8 [])).ranker.cause = some .stopped
      ∧ ask (building 0) .serviceOff 0x04#8 [] = some .ok
      ∧ (after .serviceOff (given (building 0) 0x04#8 [])).link.device = .config
      ∧ (after .serviceOff (given (building 0) 0x04#8 [])).monitor.passes = 51#32 := by
  decide +kernel

theorem test_meets_RestartAwaitsItsReset :
    Meets serving 0x02#8 [] (fun s f => f.body = [] ∧ s.ranker.stage = .idle) := by
  simp only [Meets, State.TakesUp]; decide +kernel

theorem test_restart_answered :
    ask serving .restart 0x02#8 [] = some .ok
      ∧ (after .restart (given serving 0x02#8 [])).link.restart = .answerQueued := by
  decide +kernel

/-! ### Tables and setups -/

/-- A RATE_TABLE whose r values are 1, 21, 41 … and thresholds 0, 10, 20 …, but for the four bytes given. -/
def rateBody (r1 t1 r12 t12 : Byte) : List Byte :=
  r1 :: t1 :: (List.range 10).flatMap (fun i => byte1 (20 * i + 21) ++ byte1 (10 * i + 10))
    ++ [r12, t12]

theorem test_meets_RateTableReplaced :
    Meets configured 0x08#8 (rateBody 1#8 0#8 255#8 127#8)
        (fun s f => s.link.device = .config ∧ f.body.length = 24
          ∧ (∀ i < 12, 1 ≤ num1 f.body (2 * i) ∧ num1 f.body (2 * i + 1) ≤ 127)
          ∧ ∀ i < 11, num1 f.body (2 * i) < num1 f.body (2 * (i + 1))
            ∧ num1 f.body (2 * i + 1) < num1 f.body (2 * (i + 1) + 1))
      ∧ Meets configured 0x08#8 (rateBody 0#8 0#8 255#8 127#8)
        (fun _ f => f.body.length = 24 ∧ num1 f.body 0 = 0) := by
  simp only [Meets, State.TakesUp]; decide +kernel

theorem test_rate_table_edges :
    ask configured .rateTable 0x08#8 (rateBody 1#8 0#8 255#8 127#8) = some .ok
      ∧ ask configured .rateTable 0x08#8 (rateBody 0#8 0#8 255#8 127#8) = some .badField
      ∧ ask configured .rateTable 0x08#8 (rateBody 1#8 0#8 255#8 128#8) = some .badField
      ∧ ask configured .rateTable 0x08#8 (rateBody 21#8 0#8 255#8 127#8) = some .badField
      ∧ ask configured .rateTable 0x08#8 (rateBody 1#8 10#8 255#8 127#8) = some .badField := by
  decide +kernel

/-- A TRACK_SETUP at the reset values but for bf, bl, settle and T_exit. -/
def trackBody (bf bl settle exit : Byte) : List Byte :=
  [bf, bl, settle, 12#8, exit, 3#8, 3#8, 60#8, 16#8, 2#8, 8#8]

/-- A PASS_SETUP at the reset values but for the deadline, the stale limit and the lost limit. -/
def passBody (deadline stale lost : Nat) : List Byte :=
  byte2 deadline ++ [5#8, 8#8] ++ byte2 130 ++ byte1 stale ++ byte2 lost ++ [8#8] ++ byte2 2000
    ++ [50#8, 100#8]

theorem test_meets_SetupsReplaced :
    Meets serving 0x09#8 (trackBody 6#8 7#8 15#8 11#8)
        (fun _ f => f.body.length = 11 ∧ num1 f.body 0 ≤ 6 ∧ num1 f.body 0 < num1 f.body 1
          ∧ num1 f.body 2 ≤ 15 ∧ num1 f.body 4 < num1 f.body 3)
      ∧ Meets serving 0x09#8 (trackBody 6#8 6#8 15#8 11#8)
        (fun _ f => f.body.length = 11 ∧ ¬num1 f.body 0 < num1 f.body 1)
      ∧ Meets serving 0x0C#8 (passBody 5000 255 256)
        (fun _ f => f.body.length = 14 ∧ num2 f.body 0 ≤ 5000 ∧ num1 f.body 6 < num2 f.body 7)
      ∧ Meets serving 0x0C#8 (passBody 5000 255 255)
        (fun _ f => f.body.length = 14 ∧ ¬num1 f.body 6 < num2 f.body 7) := by
  simp only [Meets, State.TakesUp]; decide +kernel

theorem test_setup_edges :
    ask serving .trackSetup 0x09#8 (trackBody 6#8 7#8 15#8 11#8) = some .ok
      ∧ ask serving .trackSetup 0x09#8 (trackBody 6#8 6#8 15#8 11#8) = some .badField
      ∧ ask serving .trackSetup 0x09#8 (trackBody 2#8 7#8 16#8 6#8) = some .badField
      ∧ ask serving .trackSetup 0x09#8 (trackBody 2#8 7#8 4#8 12#8) = some .badField
      ∧ ask serving .passSetup 0x0C#8 (passBody 100 1 2) = some .ok
      ∧ ask serving .passSetup 0x0C#8 (passBody 5000 255 256) = some .ok
      ∧ ask serving .passSetup 0x0C#8 (passBody 99 1 2) = some .badField
      ∧ ask serving .passSetup 0x0C#8 (passBody 5001 1 2) = some .badField
      ∧ ask serving .passSetup 0x0C#8 (passBody 800 20 20) = some .badField := by
  decide +kernel

/-- An ENERGY_TABLE at the reset values but for b4, the hysteresis, C1 and the lift flag. -/
def energyBody (b4 h c1 lift : Byte) : List Byte :=
  [200#8, 150#8, 100#8, b4, h] ++ byte2 60000 ++ byte2 40000 ++ byte2 24000 ++ byte2 12000
    ++ byte2 4000 ++ [c1, 2#8, 2#8, 1#8, 1#8] ++ byte2 2000 ++ [0#8, 1#8, 0#8, lift]

theorem test_meets_EnergyTableReplaced :
    Meets serving 0x0B#8 (energyBody 99#8 31#8 2#8 1#8)
        (fun _ f => f.body.length = 26 ∧ num1 f.body 3 < num1 f.body 2 ∧ num1 f.body 4 ≤ 31
          ∧ num1 f.body 25 ≤ 1)
      ∧ Meets serving 0x0B#8 (energyBody 99#8 32#8 2#8 1#8)
        (fun _ f => f.body.length = 26 ∧ ¬num1 f.body 4 ≤ 31) := by
  simp only [Meets, State.TakesUp]; decide +kernel

theorem test_energy_table_edges :
    ask serving .energyTable 0x0B#8 (energyBody 99#8 31#8 2#8 1#8) = some .ok
      ∧ ask serving .energyTable 0x0B#8 (energyBody 99#8 32#8 2#8 1#8) = some .badField
      ∧ ask serving .energyTable 0x0B#8 (energyBody 100#8 8#8 2#8 1#8) = some .badField
      ∧ ask serving .energyTable 0x0B#8 (energyBody 0#8 8#8 2#8 1#8) = some .badField
      ∧ ask serving .energyTable 0x0B#8 (energyBody 50#8 8#8 1#8 1#8) = some .badField
      ∧ ask serving .energyTable 0x0B#8 (energyBody 50#8 8#8 2#8 2#8) = some .badField := by
  decide +kernel

/-- A CLASS_PROFILE: class, kind, weight, DL max tiles, defer. -/
def profileBody (cls kind weight cap defer : Byte) : List Byte :=
  [cls, kind, weight] ++ byte2 500 ++ byte2 0 ++ [cap, 48#8, 8#8, 255#8, defer]

theorem test_meets_ClassProfileReplaced :
    Meets serving 0x0A#8 (profileBody 7#8 2#8 15#8 48#8 4#8)
        (fun _ f => f.body.length = 12 ∧ num1 f.body 0 ≤ 7 ∧ num1 f.body 1 ≤ 2 ∧ num1 f.body 2 ≤ 15
          ∧ num1 f.body 7 ≤ 48 ∧ num1 f.body 11 ≤ 4)
      ∧ Meets serving 0x0A#8 (profileBody 8#8 2#8 15#8 48#8 4#8)
        (fun _ f => f.body.length = 12 ∧ ¬num1 f.body 0 ≤ 7) := by
  simp only [Meets, State.TakesUp]; decide +kernel

theorem test_class_profile_edges :
    ask serving .classProfile 0x0A#8 (profileBody 7#8 2#8 15#8 48#8 4#8) = some .ok
      ∧ ask serving .classProfile 0x0A#8 (profileBody 8#8 2#8 15#8 48#8 4#8) = some .badField
      ∧ ask serving .classProfile 0x0A#8 (profileBody 7#8 3#8 15#8 48#8 4#8) = some .badField
      ∧ ask serving .classProfile 0x0A#8 (profileBody 7#8 2#8 0#8 48#8 4#8) = some .badField
      ∧ ask serving .classProfile 0x0A#8 (profileBody 7#8 2#8 15#8 49#8 4#8) = some .badField
      ∧ ask serving .classProfile 0x0A#8 (profileBody 7#8 2#8 15#8 48#8 5#8) = some .badField := by
  decide +kernel

/-! ### The Subscriber Table's requests -/

/-- Every slot taken. -/
def fullTable : State := { serving with slots := Vector.replicate 96 ⟨1#8, some (member 0)⟩ }

/-- An ADMIT of a class with an anchor: flag, slot, generation, weight; qualities 60 and 52. -/
def admitBody (cls flag slot gen weight : Byte) : List Byte :=
  [cls] ++ byte2 0 ++ [60#8] ++ byte2 1001 ++ [flag, slot, gen, weight, 60#8, 52#8]

theorem test_meets_AdmitBuildsRecord :
    Meets serving 0x10#8 (admitBody 8#8 0#8 0#8 0#8 16#8)
        (fun _ f => f.body.length = 12 ∧ ¬num1 f.body 0 ≤ 7)
      ∧ Meets serving 0x10#8 (admitBody 7#8 1#8 95#8 0#8 16#8)
        (fun s f => num1 f.body 0 ≤ 7 ∧ num1 f.body 9 ≤ 16 ∧ num1 f.body 6 = 1
          ∧ (handleAtOffset f.body 7).slot ≤ 95 ∧ ¬s.isLive (handleAtOffset f.body 7) = true)
      ∧ Meets fullTable 0x10#8 (admitBody 7#8 0#8 0#8 0#8 16#8)
        (fun s _ => ∀ n < 96, (s.slot n).sub ≠ none)
      ∧ Meets serving 0x10#8 (admitBody 7#8 1#8 3#8 1#8 16#8)
        (fun s f => s.isLive (handleAtOffset f.body 7) = true ∧ (s.slot 0).sub = none) := by
  simp only [Meets, State.TakesUp]; decide +kernel

/-- ADMIT's checks, its handle, and the clamps of cost 0, cap 60 and offset 1001 (R6 to R8). -/
theorem test_admit :
    ask serving .admission 0x10#8 (admitBody 8#8 0#8 0#8 0#8 16#8) = some .badField
      ∧ ask serving .admission 0x10#8 (admitBody 7#8 0#8 0#8 0#8 17#8) = some .badField
      ∧ ask serving .admission 0x10#8 (admitBody 7#8 1#8 96#8 0#8 16#8) = some .badField
      ∧ ask serving .admission 0x10#8 (admitBody 7#8 1#8 95#8 0#8 16#8) = some .unknownHandle
      ∧ ask fullTable .admission 0x10#8 (admitBody 7#8 0#8 0#8 0#8 16#8) = some .noSlot
      ∧ dataTo serving .admission 0x10#8 (admitBody 7#8 1#8 3#8 1#8 16#8)
        = some (.admitted ⟨0, 1#8⟩)
      ∧ (((after .admission (given serving 0x10#8 (admitBody 7#8 0#8 0#8 0#8 16#8))).slot 0).sub.map
          fun u => (u.dlCost, u.ulCap, u.timing, u.tracks.dl.f, u.tracks.ul.l, u.tracks.dl.settle))
        = some (1, 48, 1000, 960, 832, 4) := by
  decide +kernel

theorem test_meets_LifecycleRequests :
    Meets serving 0x11#8 [96#8, 1#8] (fun _ f => f.body.length = 2 ∧ 95 < (handleAtOffset f.body 0).slot)
      ∧ Meets serving 0x12#8 [95#8, 0#8]
        (fun s f => (handleAtOffset f.body 0).slot ≤ 95 ∧ s.lookup (handleAtOffset f.body 0) = none)
      ∧ Meets serving 0x12#8 [3#8, 1#8]
        (fun s f => s.lookup (handleAtOffset f.body 0) = some (member 0) ∧ (member 0).life ≠ .suspended)
      ∧ Meets serving 0x13#8 [5#8, 1#8]
        (fun s f => s.lookup (handleAtOffset f.body 0) = some { member 0 with life := .suspended }) := by
  simp only [Meets, State.TakesUp]; decide +kernel

/-- RELEASE, SUSPEND and RESUME in each state they may meet (R9 to R11). -/
theorem test_lifecycle :
    ask serving .release 0x11#8 [96#8, 1#8] = some .badField
      ∧ ask serving .release 0x11#8 [3#8, 2#8] = some .unknownHandle
      ∧ ask serving .release 0x11#8 [3#8, 1#8] = some .ok
      ∧ (after .release (given serving 0x11#8 [3#8, 1#8])).slot 3 = ⟨1#8, none⟩
      ∧ ask serving .suspend 0x12#8 [4#8, 2#8] = some .ok
      ∧ ask serving .suspend 0x12#8 [5#8, 1#8] = some .wrongState
      ∧ ask serving .resume 0x13#8 [5#8, 1#8] = some .ok
      ∧ ask serving .resume 0x13#8 [4#8, 2#8] = some .wrongState := by
  decide +kernel

/-- A LINK_UPDATE of 4:2: presence, class, anchor action, anchor, anchor weight. -/
def updateBody (present cls action slot gen weight : Byte) : List Byte :=
  [4#8, 2#8, present, cls] ++ byte2 5000 ++ [49#8] ++ byte2 1000 ++ [action, slot, gen, weight]

theorem test_meets_LinkUpdateWritesPresentFields :
    Meets serving 0x14#8 (96#8 :: (updateBody 0#8 0#8 0#8 0#8 0#8 0#8).tail)
        (fun _ f => f.body.length = 13 ∧ 95 < (handleAtOffset f.body 0).slot)
      ∧ Meets serving 0x14#8 (95#8 :: (updateBody 0#8 0#8 0#8 0#8 0#8 0#8).tail)
        (fun s f => s.lookup (handleAtOffset f.body 0) = none)
      ∧ Meets serving 0x14#8 (updateBody 64#8 0#8 0#8 0#8 0#8 0#8) (fun _ f => ¬num1 f.body 2 < 64)
      ∧ Meets serving 0x14#8 (updateBody 16#8 0#8 1#8 4#8 2#8 0#8)
        (fun _ f => (num1 f.body 2).testBit 4 = true ∧ num1 f.body 9 = 1
          ∧ (handleAtOffset f.body 10).slot = (handleAtOffset f.body 0).slot)
      ∧ Meets serving 0x14#8 (updateBody 16#8 0#8 1#8 95#8 2#8 0#8)
        (fun s f => s.isLive (handleAtOffset f.body 10) = false)
      ∧ Meets serving 0x14#8 (updateBody 63#8 7#8 1#8 3#8 1#8 16#8)
        (fun s f => num1 f.body 2 < 64 ∧ num1 f.body 3 ≤ 7 ∧ num1 f.body 12 ≤ 16
          ∧ (handleAtOffset f.body 10).slot ≠ (handleAtOffset f.body 0).slot
          ∧ s.isLive (handleAtOffset f.body 10) = true) := by
  simp only [Meets, State.TakesUp]; decide +kernel

/-- LINK_UPDATE's checks in their order, and absent fields that are not read (R13, R14, R185). -/
theorem test_link_update :
    ask serving .linkUpdate 0x14#8 (updateBody 64#8 0#8 0#8 0#8 0#8 0#8) = some .badField
      ∧ ask serving .linkUpdate 0x14#8 (updateBody 0#8 9#8 9#8 200#8 0#8 99#8) = some .ok
      ∧ ask serving .linkUpdate 0x14#8 (updateBody 1#8 8#8 0#8 0#8 0#8 0#8) = some .badField
      ∧ ask serving .linkUpdate 0x14#8 (updateBody 16#8 0#8 0#8 3#8 1#8 0#8) = some .badField
      ∧ ask serving .linkUpdate 0x14#8 (updateBody 16#8 0#8 1#8 4#8 7#8 0#8) = some .badField
      ∧ ask serving .linkUpdate 0x14#8 (updateBody 16#8 0#8 1#8 95#8 2#8 0#8) = some .unknownHandle
      ∧ (((after .linkUpdate (given serving 0x14#8 (updateBody 63#8 7#8 2#8 99#8 9#8 16#8))).slot
          4).sub.map fun u => [u.cls.val, u.dlCost, u.ulCap, u.timing, u.anchorWeight])
        = some [7, 4095, 48, 1000, 16] := by
  decide +kernel

theorem test_meets_SubscriberReadReturnsRecord :
    Meets serving 0x15#8 [2#8, 3#8, 1#8] (fun _ f => f.body.length = 3 ∧ 1 < num1 f.body 0)
      ∧ Meets serving 0x15#8 [0#8, 95#8, 1#8]
        (fun s f => num1 f.body 0 = 0 ∧ s.lookup (handleAtOffset f.body 1) = none)
      ∧ Meets serving 0x15#8 [0#8, 3#8, 1#8]
        (fun s f => s.lookup (handleAtOffset f.body 1) = some (member 0))
      ∧ Meets serving 0x15#8 [1#8, 95#8, 9#8]
        (fun s f => num1 f.body 0 = 1 ∧ (s.slot (handleAtOffset f.body 1).slot).sub = none)
      ∧ Meets serving 0x15#8 [1#8, 3#8, 9#8]
        (fun s f => (s.slot (handleAtOffset f.body 1).slot).sub = some (member 0)) := by
  simp only [Meets, State.TakesUp]; decide +kernel

theorem test_subscriber_read :
    ask serving .subscriberRead 0x15#8 [2#8, 3#8, 1#8] = some .badField
      ∧ ask serving .subscriberRead 0x15#8 [1#8, 96#8, 1#8] = some .badField
      ∧ ask serving .subscriberRead 0x15#8 [0#8, 3#8, 9#8] = some .unknownHandle
      ∧ dataTo serving .subscriberRead 0x15#8 [1#8, 95#8, 9#8] = some (.freeSlot 95 0#8)
      ∧ dataTo serving .subscriberRead 0x15#8 [1#8, 3#8, 9#8]
        = some (.record ⟨⟨3, 1#8⟩, member 0, false, .both 10, .both 800, .both 6⟩) := by
  decide +kernel

/-! ### Quality (02) -/

/-- A track run through samples under a setup, as F, L, D, fade state code, debounce, fade samples, settle. -/
def samples (c : TrackSetup) (t : Track) (vs : List Nat) : List (List Int) :=
  match vs with
  | [] => []
  | v :: rest =>
    let t' := (t.takeSample c v).1
    [t'.f, t'.l, t'.deficit, t'.fade.code, t'.debounce, t'.fadeSamples, t'.settle]
      :: samples c t' rest

/-- The worked table of section 2.4, and the rest at 835 it goes on to. -/
theorem test_filter_arithmetic :
    samples resetTrackSetup { trackAt 60 with settle := 4 } (List.replicate 9 832)
      = [[896, 896, 0, 0, 0, 0, 3], [864, 864, 0, 0, 0, 0, 2], [848, 848, 0, 0, 0, 0, 1],
         [840, 840, 0, 0, 0, 0, 0], [838, 840, 2, 0, 0, 0, 0], [837, 840, 3, 0, 0, 0, 0],
         [836, 840, 4, 0, 0, 0, 0], [835, 840, 5, 0, 0, 0, 0], [835, 840, 5, 0, 0, 0, 0]] := by
  decide +kernel

/-- The rain fade of section 2.5. -/
theorem test_rain_fade :
    samples resetTrackSetup (trackAt 60) (List.replicate 6 640 ++ List.replicate 6 960)
      = [[880, 960, 80, 0, 0, 0, 0], [820, 959, 139, 0, 0, 0, 0], [775, 958, 183, 0, 0, 0, 0],
         [742, 957, 215, 1, 1, 0, 0], [717, 957, 240, 1, 2, 0, 0], [698, 957, 259, 2, 0, 0, 0],
         [763, 957, 194, 2, 0, 1, 0], [812, 957, 145, 2, 0, 2, 0], [849, 957, 108, 2, 0, 3, 0],
         [876, 957, 81, 3, 1, 4, 0], [897, 957, 60, 3, 2, 5, 0], [912, 957, 45, 0, 0, 0, 0]] := by
  decide +kernel

/-- The fade entered and reseeded of section 11.7. -/
theorem test_reseed :
    samples { resetTrackSetup with fadeTimeout := 4, dEnter := 2 } (trackAt 75)
        (List.replicate 15 880)
      = [[1120, 1200, 80, 0, 0, 0, 0], [1060, 1199, 139, 0, 0, 0, 0], [1015, 1198, 183, 0, 0, 0, 0],
         [982, 1197, 215, 1, 1, 0, 0], [957, 1197, 240, 2, 0, 0, 0], [938, 1197, 259, 2, 0, 1, 0],
         [924, 1197, 273, 2, 0, 2, 0], [913, 1197, 284, 2, 0, 3, 0], [905, 1197, 292, 2, 0, 4, 0],
         [899, 899, 0, 0, 0, 0, 4], [890, 890, 0, 0, 0, 0, 3], [885, 885, 0, 0, 0, 0, 2],
         [883, 883, 0, 0, 0, 0, 1], [882, 882, 0, 0, 0, 0, 0], [882, 882, 0, 0, 0, 0, 0]] := by
  decide +kernel

/-- A link driven to its floor (section 2.7): the rows 40, 47 and 48, and the delivery after them. -/
theorem test_driven_to_floor :
    let fail (t : Track) := t.failed resetTrackSetup
    let at40 := Nat.iterate fail 40 (trackAt 50)
    let at46 := Nat.iterate fail 6 at40
    let at48 := Nat.iterate fail 2 at46
    (at40.offset = -640 ∧ at40.poor = 1) ∧ at46.failedLatches resetTrackSetup = true
      ∧ (fail at46).poor = 0 ∧ (at48.offset = -640 ∧ at48.poor = 1)
      ∧ (at48.delivered resetTrackSetup).offset = -638 := by
  decide +kernel

theorem test_meets_QualityEntryIsASample :
    serving.lookup (handleAtOffset [95#8, 0#8, 0#8, 52#8] 0) = none
      ∧ (serving.lookup (handleAtOffset [3#8, 1#8, 1#8, 52#8] 0) = some (member 0)
        ∧ num1 [3#8, 1#8, 1#8, 52#8] 2 = dirCode .ul)
      ∧ (serving.lookup (handleAtOffset [4#8, 2#8, 0#8, 255#8] 0)).map Subscriber.life = some .lost := by
  decide +kernel

/-- A sample of a LOST subscriber: ACTIVE again, settle restarted and one step of it taken, the anchor's F
recorded (R24, R25, R32). -/
theorem test_sample_recovers_lost :
    let r := qualityEntry [4#8, 2#8, 0#8, 255#8] serving
    r.reason = none ∧ ((r.state.slot 4).sub.map Subscriber.life) = some .active
      ∧ ((r.state.slot 4).sub.map fun u => [u.tracks.dl.f, u.tracks.dl.settle, u.tracks.ul.settle])
        = some [1416, 3, 0]
      ∧ ((r.state.slot 4).sub.map fun u => (u.tracks.dl.aRef, u.tracks.ul.aRef)) = some (some 800, none) := by
  decide +kernel

theorem test_meets_FastFilterMovesTowardSample :
    (trackAt 60).settle = 0 ∧ (((963 : Nat) : Int) - (trackAt 60).f).natAbs < 2 ^ resetTrackSetup.bf
      ∧ 1 ≤ resetTrackSetup.bf := by
  decide

/-- Each clause of the detector at its boundary: deficits 192 and 193, 96 and 97, the debounce at its limit. -/
theorem test_meets_FadeDetectorFollowsRules :
    let c := resetTrackSetup
    let t (fade : FadeState) (d deb : Nat) : Track :=
      { trackAt 60 with f := 960 - d, fade := fade, debounce := deb, fadeSamples := 255 }
    ((t .steady 192 0).detect c).1.fade = .steady ∧ ((t .steady 193 0).detect c).1.fade = .entering
      ∧ ((t .steady 193 0).detect { c with dEnter := 1 }).2 = true
      ∧ ((t .entering 192 2).detect c).1.fade = .steady ∧ ((t .entering 193 2).detect c).2 = true
      ∧ ((t .entering 193 1).detect c).1.debounce = 2
      ∧ ((t .faded 97 0).detect c).1.fadeSamples = 255 ∧ ((t .faded 96 0).detect c).1.fade = .leaving
      ∧ ((t .faded 96 0).detect { c with dExit := 1 }).1.fade = .steady
      ∧ ((t .leaving 97 2).detect c).1.fade = .faded ∧ ((t .leaving 96 2).detect c).1.fade = .steady
      ∧ ((t .leaving 96 1).detect c).1.debounce = 2 := by
  decide +kernel

/-- The silent subscriber with an anchor of section 2.8: 1:1 of F 700, A_ref 900, O −32, at pass 130. -/
def anchorCase (anchorF : Nat) (anchorAt : U32) (live : Bool) : State × Subscriber :=
  let holder : Subscriber :=
    { member 0 with
      anchor := some ⟨0, 1#8⟩
      tracks := .both { trackAt 50 with f := 700, offset := -32, lastSample := 100#32, aRef := some 900 } }
  let anchor : Subscriber :=
    { member 0 with tracks := .both { trackAt 50 with f := anchorF, lastSample := anchorAt } }
  ({ serving with
      slots := serving.slots.set 0 ⟨1#8, if live then some anchor else none⟩
      ranker := { serving.ranker with passIndex := 130#32 } }, holder)

theorem test_anchor_paths :
    let e (c : State × Subscriber) := c.1.quality c.2 .dl 20 8
    e (anchorCase 820 125#32 true) = 628 ∧ e (anchorCase 980 125#32 true) = 708
      ∧ e (anchorCase 980 104#32 true) = 540 ∧ e (anchorCase 980 125#32 false) = 540
      ∧ (anchorCase 980 125#32 true).1.quality (anchorCase 980 125#32 true).2 .dl 30 8 = 668
      ∧ trunc0 (-75 * 8) 4 = -37
      ∧ [628, 708, 540, 668].map (stepOf resetRateTable) = [4, 5, 4, 5] := by
  decide +kernel

/-- Stepping through the reset table (section 2.9). -/
theorem test_rate_steps :
    [0, 127, 128, 1000, 1727, 1728, 2047].map (stepOf resetRateTable) = [0, 0, 1, 7, 11, 12, 12]
      ∧ stepFor resetRateTable .emergency 127 = 1 ∧ stepFor resetRateTable .guaranteed 127 = 0 := by
  decide +kernel

theorem test_meets_EffectiveQualityAndRateStep :
    ((serving.ranker.passIndex - (member 0).tracks.dl.lastSample).toNat ≤ 10
        ∧ 9 < (serving.ranker.passIndex - (member 0).tracks.dl.lastSample).toNat)
      ∧ (anchorCase 980 125#32 true).2.anchor = some ⟨0, 1#8⟩
      ∧ ((anchorCase 980 125#32 true).1.lookup ⟨0, 1#8⟩).isSome = true
      ∧ (anchorCase 980 125#32 true).2.tracks.dl.aRef = some 900 := by
  decide +kernel

/-! ### Backlog and history (03) -/

/-- The ring of the example of section 3.4: frames 1000, 997, 998. -/
def ringed : Demand :=
  { backlog := 0, stamp := some 996#16,
    ring :=
      #v[⟨true, 1000#16, .data, 3, 240, .pending⟩, ⟨true, 997#16, .data, 6, 480, .delivered⟩,
         ⟨true, 998#16, .data, 3, 360, .pending⟩, blank] }

/-- SERVICE with that ring on the downlink of 3:1. -/
def reporting : State :=
  serving.putSub 3 { member 0 with demand := ⟨ringed, ringed⟩ }

/-- A queue entry of 3:1, downlink, or of a slot given. -/
def report (slot : Byte) (stamp count : Nat) : List Byte :=
  [slot, 1#8, 0#8] ++ byte2 stamp ++ byte4 count

/-- The four reports of the example, each on the state the one before leaves. -/
theorem test_report_corrections :
    let r1 := queueEntry (report 3#8 997 1500) reporting
    let r2 := queueEntry (report 3#8 998 1100) r1.state
    let backlog (s : State) := (s.slot 3).sub.map fun u => u.demand.dl.backlog
    backlog r1.state = some 900 ∧ backlog r2.state = some 860
      ∧ (queueEntry (report 3#8 997 2000) r2.state).reason = some .stale
      ∧ (queueEntry (report 3#8 996 2000) r2.state).reason = some .stale := by
  decide +kernel

/-- The checks of R51 where they meet: stamps 1001, 33767, 33768, 997, 996, and the stamp of the last report. -/
theorem test_meets_QueueEntryFollowsChecks :
    serving.lookup (handleAtOffset (report 95#8 0 0) 0) = none
      ∧ (reporting.lookup (handleAtOffset (report 3#8 0 0) 0)).isSome = true
      ∧ num1 (report 3#8 0 0) 2 = dirCode .dl
      ∧ [1001, 33767, 33768, 997, 996, 1000].map
          (fun n => (queueEntry (report 3#8 n 0) reporting).reason)
        = [some .future, some .future, some .stale, none, some .stale, none]
      ∧ (queueEntry (report 3#8 5 9)
          { reporting with ranker := { reporting.ranker with newest := none } }).reason = none
      ∧ [996, 997].map (fun n => (queueEntry (report 3#8 n 0) reporting).events.map Event.kind)
        = [[.reportStale], []] := by
  decide +kernel

/-- An outcome entry of 3:1, downlink. -/
def outcome (frame : Nat) (failed : Byte) : List Byte := [3#8, 1#8, 0#8] ++ byte2 frame ++ [failed]

/-- The checks of R56 where they meet, and each accepted result; at the floor with poor count 7 the failure
latches LINK_POOR. -/
theorem test_meets_OutcomeEntryFollowsChecks :
    serving.lookup (handleAtOffset [95#8, 1#8, 0#8] 0) = none
      ∧ [outcome 996 1#8, outcome 999 1#8, outcome 997 1#8, outcome 1000 0#8, outcome 998 1#8].map
          (fun e => (outcomeEntry e reporting).reason)
        = [some .stale, some .noGrant, some .alreadyReported, none, none]
      ∧ (outcomeEntry (outcome 1000 1#8)
          { reporting with ranker := { reporting.ranker with newest := none } }).reason = some .noGrant
      ∧ (let floor : Track := { trackAt 50 with offset := -624, poor := 7 }
         (((outcomeEntry (outcome 998 1#8)
            (reporting.putSub 3
              { member 0 with demand := .both ringed, tracks := .both floor })).state.slot 3).sub.map
            fun u => u.hasMember (.linkPoor .dl))) = some true := by
  decide +kernel

/-- A failed grant is added back when no report has counted it: the stamp before its frame, or absent, and
not the stamp of its frame or a later one (R57); a stamp 32768 frames away is neither (R1, R130; log 32). -/
theorem test_failed_grant_added_back :
    (ringed.failed 998#16).backlog = 360
      ∧ (Demand.failed { ringed with stamp := none } 998#16).backlog = 360
      ∧ (Demand.failed { ringed with stamp := some 998#16 } 998#16).backlog = 0
      ∧ [33765, 33766, 33767].map
          (fun n => (Demand.failed { ringed with stamp := some (BitVec.ofNat 16 n) } 998#16).backlog)
        = [0, 360, 360] := by
  decide +kernel

theorem test_meets_ReportAndGrantInEitherOrder :
    ringed.ring[ringPos 999#16].written = false ∧ ((999#16 : U16) - 996#16).toNat ≤ 3
      ∧ ((999#16 : U16) - 999#16).toNat ≤ 3 := by
  decide +kernel

/-- The two orders of section 3.6: 9:5 with grants of 2000 and 2001, a report of 700 stamped 1999. -/
theorem test_both_orders :
    let g : Demand :=
      { backlog := 150, stamp := some 1998#16,
        ring := #v[⟨true, 2000#16, .data, 5, 300, .pending⟩, ⟨true, 2001#16, .data, 4, 200, .pending⟩,
          blank, blank] }
    let report (g : Demand) := g.report 1999#16 700 (g.correction 2001#16 1999#16)
    (report g).backlog = 200 ∧ ((report g).failed 2000#16).backlog = 500
      ∧ (g.failed 2000#16).backlog = 450 ∧ (report (g.failed 2000#16)).backlog = 500 := by
  decide +kernel

/-! ### Batches and frame marks -/

/-- A quality entry of 3:1. -/
def sampleBytes : List Byte := [3#8, 1#8, 0#8, 52#8]

theorem test_meets_BatchTakesEntriesInOrder :
    BatchOf .qualityBatch 0x19#8 4 entryDirOk qualityEntry
      ∧ Meets serving 0x19#8 (2#8 :: (sampleBytes ++ sampleBytes))
        (fun _ f => f.kind = 0x19#8 ∧ f.body.length = 1 + 4 * 2
          ∧ (batchEntries 4 f.body).all entryDirOk = true ∧ (batchEntries 4 f.body).length = 2) := by
  refine ⟨.inl ⟨rfl, rfl, rfl, rfl, rfl⟩, ?_⟩
  simp only [Meets, State.TakesUp]; decide +kernel

/-- Two entries taken in one step, or one by one; a dead handle makes the answer PARTIAL (R171; log 4). -/
theorem test_batch_in_steps :
    let body : List Byte := 2#8 :: (sampleBytes ++ [95#8, 0#8, 1#8, 7#8])
    let first := after (.qualityBatch 1) (given serving 0x19#8 body)
    first.link.decoding = .batch ⟨1, 1, []⟩ ∧ first.link.answers = []
      ∧ (after (.qualityBatch 1) first).link.answers.map Answer.result = [.partialBatch]
      ∧ dataTo serving (.qualityBatch 2) 0x19#8 body = some (.batch 1 [⟨1, .unknownHandle⟩]) := by
  decide +kernel

/-- The line free and the general section empty: the notice that the first entry of a batch raises is chosen
before the second entry, and so before the answer; the last entry's event waits for the answer (R174; log 6). -/
theorem test_batch_notice_goes_first :
    let apply (_ : List Byte) (x : State) : EntryTaken := ⟨x.latchDevice .captureFull none, none, []⟩
    let s : State :=
      { serving with
        link := { serving.link with tx := none }, notices := { serving.notices with general := [] } }
    ((takeEntries apply [[], []] ⟨0, 0, []⟩ s).state.link.tx.map Transmission.source) = some .general
      ∧ (takeEntries apply [[]] ⟨0, 0, []⟩ s).state.link.tx = none := by
  decide +kernel

/-- The state above with monitor 0 about to overflow on an OUTCOME_FAILED, its ALERT action selected. -/
def failureWatched : State :=
  { reporting with
    monitor :=
      { reporting.monitor with
        monitors :=
          reporting.monitor.monitors.set 0
            { resetMonitor with
              enable := true, kind := .outcomeFailed, count := 0xFFFFFFFF#32
              actions := ⟨true, false, false⟩ } } }

/-- That state after an OUTCOME_BATCH of one or two entries, a step taking `n` of them. -/
def reported (n : Nat) (es : List (List Byte)) : State :=
  after (.outcomeBatch n) (given failureWatched 0x1B#8 (BitVec.ofNat 8 es.length :: es.flatten))

/-- Whether the summary of each answer shows MONITOR_OVERFLOW. -/
def overflowShown (s : State) : List Bool := s.link.answers.map fun a => a.summary.alerts.getLsbD 3

/-- The event of a batch's last entry comes after the answer, whose summary does not show the alert the event
latches; the event of an earlier entry comes before it (R144, R169). -/
theorem test_answer_before_last_event :
    overflowShown (reported 2 [outcome 998 1#8]) = [false]
      ∧ (reported 2 [outcome 998 1#8]).hasAlert .monitorOverflow = true
      ∧ overflowShown (reported 2 [outcome 996 1#8, outcome 998 1#8]) = [false]
      ∧ overflowShown (reported 2 [outcome 998 1#8, outcome 996 1#8]) = [true]
      ∧ (reported 1 [outcome 998 1#8, outcome 996 1#8]).hasAlert .monitorOverflow = true := by
  decide +kernel

/-- A FRAME_MARK of frame n. -/
def markResult (s : State) (n : Nat) : Option Result := ask s .frameMark 0x18#8 (byte2 n)

/-- SERVICE with newest frame n. -/
def newestAt (n : Option U16) : State := { serving with ranker := { serving.ranker with newest := n } }

/-- The frame numbers across a wrap of section 5.2. -/
theorem test_frames_across_wrap :
    markResult (newestAt none) 65530 = some .ok
      ∧ markResult (newestAt (some 65530#16)) 65531 = some .ok
      ∧ markResult (newestAt (some 65531#16)) 65531 = some .duplicateFrame
      ∧ markResult (newestAt (some 65531#16)) 2 = some .ok
      ∧ [65535, 32770, 32769].map (markResult (newestAt (some 2#16)))
        = [some .outOfOrderFrame, some .outOfOrderFrame, some .ok] := by
  decide +kernel

/-- Frames equal, half the circle away, later by 32767, by 1 and by 2 than the newest, and no newest. -/
theorem test_meets_FrameMarkStartsPass :
    Meets serving 0x18#8 (byte2 1000)
        (fun s f => f.body.length = 2 ∧ s.link.device = .service
          ∧ s.ranker.newest = some (frameAt f.body 0))
      ∧ Meets serving 0x18#8 (byte2 33768)
        (fun _ f => frameAt f.body 0 ≠ 1000#16 ∧ 32768 ≤ (frameAt f.body 0 - 1000#16).toNat)
      ∧ Meets serving 0x18#8 (byte2 33767)
        (fun s f => s.ranker.stage = .idle ∧ 1 ≤ (frameAt f.body 0 - 1000#16).toNat
          ∧ (frameAt f.body 0 - 1000#16).toNat ≤ 32767)
      ∧ Meets serving 0x18#8 (byte2 1001)
        (fun s f => s.ranker.newest = some 1000#16 ∧ (frameAt f.body 0 - 1000#16).toNat = 1)
      ∧ Meets serving 0x18#8 (byte2 1002)
        (fun s f => s.ranker.newest = some 1000#16 ∧ (frameAt f.body 0 - 1000#16).toNat = 2)
      ∧ Meets (newestAt none) 0x18#8 (byte2 1002)
        (fun s _ => s.link.device = .service ∧ s.ranker.newest = none ∧ s.ranker.stage = .idle) := by
  simp only [Meets, State.TakesUp]; decide +kernel

/-- SERVICE with monitor 0 about to overflow on a FRAME_GAP, its ALERT action selected. -/
def gapWatched : State :=
  { serving with
    monitor :=
      { serving.monitor with
        monitors :=
          serving.monitor.monitors.set 0
            { resetMonitor with
              enable := true, kind := .frameGap, count := 0xFFFFFFFF#32
              actions := ⟨true, false, false⟩ } } }

/-- The FRAME_GAP event comes after the answer of its FRAME_MARK, whose summary does not show the alert the
event latches; the next frame raises no event (R81, R82, R144). -/
theorem test_gap_follows_answer :
    let t := after .frameMark (given gapWatched 0x18#8 (byte2 1002))
    let u := after .frameMark (given gapWatched 0x18#8 (byte2 1001))
    (t.link.answers.map fun a => a.summary.alerts) = [0#10]
      ∧ (t.hasAlert .monitorOverflow = true ∧ t.notices.general.length = 2)
      ∧ (u.hasAlert .monitorOverflow = false ∧ u.monitor = gapWatched.monitor) := by
  decide +kernel

/-- A pass start: its answer shows the pass in flight; a skipped frame raises FRAME_GAP; the WAITING traffic of
the last pass is purged (R82, R81, R139). -/
theorem test_pass_starts :
    let s := { serving with notices := { serving.notices with grants := [⟨.chunk ⟨1000#16, .dl, 0, []⟩, .waiting, 50#32⟩] } }
    let t := after .frameMark (given s 0x18#8 (byte2 1001))
    t.ranker.stage = .constructing ∧ t.ranker.passIndex = 51#32 ∧ t.notices.grants = []
      ∧ t.hasAlert .mapPurged = true
      ∧ (t.link.answers.map fun a => (a.summary.inFlight, a.summary.newest)) = [(true, some 1001#16)] := by
  decide +kernel

theorem test_meets_FrameMarkPreemptsPass :
    Meets placing 0x18#8 (byte2 1001)
        (fun s f => s.PassInv ∧ f.body.length = 2 ∧ s.ranker.stage = .placing)
      ∧ Meets (building 0) 0x18#8 (byte2 1001)
        (fun s f => s.PassInv ∧ f.body.length = 2 ∧ s.ranker.stage = .constructing)
      ∧ (let s := after .frameMark (given placing 0x18#8 (byte2 1001))
         s.link.decoding = .frameMark 1001#16
          ∧ s.link.accepted.head? = some ⟨0x18#8, 0x21#8, byte2 1001⟩) := by
  simp only [Meets, State.TakesUp, State.PassInv, placerInPass]
  and_intros <;> decide +kernel

theorem test_preemption :
    let t := after .frameMark (given placing 0x18#8 (byte2 1001))
    t.ranker.cause = some .preempted ∧ t.link.decoding = .frameMark 1001#16 ∧ t.link.answers = []
      ∧ markResult (building 0) 1001 = some .ok
      ∧ (after .frameMark (given (building 0) 0x18#8 (byte2 1001))).monitor.passes = 51#32 := by
  decide +kernel

/-! ### Energy (04) -/

/-- The selections of section 4.5 with the reset table. -/
theorem test_segment_selection :
    [(3, 152), (3, 96), (3, 91), (5, 210), (5, 50), (5, 51), (1, 195), (1, 190), (2, 40), (4, 250)].map
        (fun p => resetEnergyTable.select p.1 p.2)
      = [2, 3, 4, 1, 5, 4, 1, 2, 5, 1] := by
  decide +kernel

/-- The graded targets of section 4.6. -/
theorem test_graded_targets :
    [(3, 130), (3, 96), (2, 175), (4, 60), (4, 100), (5, 30)].map
        (fun p => Energy.target
          { resetEnergy with
            table := { resetEnergyTable with graded := true }, segment := p.1, reading := some p.2 })
      = [33600, 24000, 50000, 14400, 24000, 4000] := by
  decide +kernel

/-- The slewing rise of section 4.7: allowances 14, 15 and 16. -/
theorem test_slewing_rise :
    let e : Energy :=
      { resetEnergy with
        table := { resetEnergyTable with graded := true }, segment := 3, reading := some 130 }
    let active (n : Nat) := (Nat.iterate (fun e => e.afterAllowance 2000) n e).active
    [1, 2, 14, 15, 16].map active = [6000, 8000, 32000, 33600, 33600] := by
  decide +kernel

/-- The stale reading and the emergency of section 4.8: passes 50, 52, 53, 54, and 55, 56 after a report. -/
theorem test_stale_and_emergency :
    let e : Energy := { resetEnergy with segment := 2, reading := some 160, active := 40000 }
    let next (e : Energy) := e.afterAllowance 3
    let at54 := Nat.iterate next 5 e
    let told := at54.report 160
    (Nat.iterate next 3 e).stale = false ∧ (Nat.iterate next 3 e).staleBegins 3 = true
      ∧ (Nat.iterate next 4 e).allowance false = ⟨4000, 1, 5⟩
      ∧ at54.allowance true = ⟨60000, 2, 5⟩ ∧ at54.active = 4000
      ∧ (told.segment = 2 ∧ told.stale = false ∧ told.active = 4000)
      ∧ (next told).allowance false = ⟨6000, 2, 2⟩ ∧ (next (next told)).allowance false = ⟨8000, 2, 2⟩ := by
  decide +kernel

/-- Each clause of the report at a boundary of the reset table, and the answer's own summary (R66, R76). -/
theorem test_meets_EnergyReportSelectsSegment :
    resetEnergyTable.valid = true
      ∧ Meets serving 0x1C#8 [51#8]
        (fun s f => f.body.length = 1
          ∧ s.energy.table.segmentOf (num1 f.body 0) < s.energy.segment)
      ∧ Meets serving 0x1C#8 [50#8]
        (fun s f => s.energy.segment ≤ s.energy.table.segmentOf (num1 f.body 0)
          ∧ s.energy.table.segmentOf (num1 f.body 0 + s.energy.table.hysteresis) ≤ s.energy.segment)
      ∧ (resetEnergyTable.segmentOf 92 = 4 ∧ 3 < resetEnergyTable.segmentOf 91
        ∧ 3 < resetEnergyTable.segmentOf (91 + 8))
      ∧ ((answerTo serving .energyReport 0x1C#8 [170#8]).map fun a =>
          [a.summary.segment, a.summary.active, a.summary.carriers]) = some [2, 4000, 2] := by
  simp only [Meets, State.TakesUp]; decide +kernel

theorem test_meets_TargetAndActiveBudget :
    let t := { resetEnergyTable with graded := true }
    t.valid = true ∧ t.graded = true
      ∧ (Energy.moved { resetEnergy with active := 3999 } 4000 = 4000
        ∧ Energy.moved { resetEnergy with active := 3999, table := { t with riseJump := true } } 9000 = 9000)
      ∧ (Energy.moved { resetEnergy with active := 4001 } 4000 = 4000
        ∧ Energy.moved { resetEnergy with active := 9000, table := { t with fallJump := false } } 4000
          = 7000)
      ∧ Energy.moved { resetEnergy with active := 4000 } 4000 = 4000 := by
  decide +kernel

/-- The age at its stop, and one below it (R62). -/
theorem test_meets_AllowanceTakenInFourSteps :
    let old (n : Nat) : State :=
      { serving with energy := { serving.energy with reading := some 100, age := n } }
    (old 65536).energy.age ≤ 65536 ∧ ((old 65536).takeAllowance false).energy.age = 65536
      ∧ ((old 65535).takeAllowance false).energy.age = 65536
      ∧ ((old 1999).takeAllowance false).hasAlert .energyStale = false
      ∧ ((old 2000).takeAllowance false).hasAlert .energyStale = true := by
  decide +kernel

/-! ### Monitors (08) -/

/-- A MONITOR_SETUP: target, enable, kind, filter, mask, handle flag, slot, generation, V, actions. -/
def monitorBody (target on kind filter flag slot : Byte) (v : Nat) (actions : Byte) : List Byte :=
  [target, on, kind, filter, 0xFF#8, flag, slot, 1#8] ++ byte4 v ++ [actions]

theorem test_meets_MonitorSetupLoads :
    Meets serving 0x20#8 (monitorBody 5#8 1#8 2#8 0#8 0#8 0#8 2 6#8)
        (fun _ f => f.body.length = 13 ∧ 4 < num1 f.body 0)
      ∧ Meets serving 0x20#8 (monitorBody 3#8 1#8 13#8 2#8 1#8 95#8 2 7#8)
        (fun _ f => num1 f.body 0 < 4 ∧ ¬num1 f.body 2 ≤ 12)
      ∧ Meets serving 0x20#8 (monitorBody 3#8 1#8 12#8 2#8 1#8 95#8 1 7#8)
        (fun _ f => num1 f.body 0 < 4 ∧ num1 f.body 2 ≤ 12 ∧ num1 f.body 3 ≤ 2
          ∧ (handleAtOffset f.body 6).slot ≤ 95 ∧ num4 f.body 8 ≠ 0 ∧ num1 f.body 12 < 8)
      ∧ Meets serving 0x20#8 (monitorBody 4#8 1#8 17#8 0#8 0#8 0#8 0 0#8)
        (fun _ f => num1 f.body 0 = 4 ∧ ¬num1 f.body 2 ≤ 16)
      ∧ Meets serving 0x20#8 (monitorBody 4#8 1#8 16#8 0#8 0#8 0#8 0 0#8)
        (fun _ f => num1 f.body 0 = 4 ∧ num1 f.body 1 ≤ 1 ∧ 1 ≤ num1 f.body 2 ∧ num1 f.body 2 ≤ 16) := by
  simp only [Meets, State.TakesUp]; decide +kernel

theorem test_monitor_setup_edges :
    ask serving .monitorSetup 0x20#8 (monitorBody 5#8 1#8 2#8 0#8 0#8 0#8 2 6#8) = some .badField
      ∧ ask serving .monitorSetup 0x20#8 (monitorBody 3#8 1#8 12#8 2#8 1#8 95#8 1 7#8) = some .ok
      ∧ ask serving .monitorSetup 0x20#8 (monitorBody 3#8 1#8 12#8 2#8 1#8 96#8 1 7#8) = some .badField
      ∧ ask serving .monitorSetup 0x20#8 (monitorBody 3#8 1#8 12#8 3#8 0#8 0#8 1 7#8) = some .badField
      ∧ ask serving .monitorSetup 0x20#8 (monitorBody 3#8 1#8 12#8 2#8 0#8 0#8 0 7#8) = some .badField
      ∧ ask serving .monitorSetup 0x20#8 (monitorBody 3#8 1#8 12#8 2#8 0#8 0#8 1 8#8) = some .badField
      ∧ ask serving .monitorSetupBuffer 0x20#8 (monitorBody 4#8 1#8 16#8 0#8 0#8 0#8 0 0#8) = some .ok
      ∧ ask serving .monitorSetupBuffer 0x20#8 (monitorBody 4#8 1#8 0#8 0#8 0#8 0#8 0 0#8)
        = some .badField
      ∧ ask serving .monitorSetupBuffer 0x20#8 (monitorBody 4#8 2#8 16#8 0#8 0#8 0#8 0 0#8)
        = some .badField := by
  decide +kernel

theorem test_meets_MonitorReadsAnswer :
    Meets serving 0x21#8 [2#8] (fun _ f => f.body.length = 1 ∧ 1 < num1 f.body 0)
      ∧ Meets serving 0x21#8 [1#8] (fun _ f => num1 f.body 0 = 1)
      ∧ Meets serving 0x22#8 [17#8] (fun _ f => f.body.length = 1 ∧ 16 < num1 f.body 0)
      ∧ Meets serving 0x22#8 [16#8] (fun _ f => 1 ≤ num1 f.body 0 ∧ num1 f.body 0 ≤ 16)
      ∧ Meets serving 0x23#8 [] (fun _ f => f.body = [])
      ∧ Meets serving 0x24#8 [] (fun _ f => f.body = []) := by
  simp only [Meets, State.TakesUp]; decide +kernel

theorem test_monitor_reads :
    [0#8, 1#8, 2#8].map (fun b => ask serving .counterRead 0x21#8 [b])
        = [some .ok, some .ok, some .badField]
      ∧ [0#8, 1#8, 16#8, 17#8].map (fun b => ask serving .captureRead 0x22#8 [b])
        = [some .badField, some .ok, some .ok, some .badField]
      ∧ dataTo serving .traceRead 0x23#8 [] = some (.trace false [])
      ∧ ask serving .traceResume 0x24#8 [] = some .ok := by
  decide +kernel

/-- Monitor 2 of the example of section 8.4: SKIP_POWER, DL, V = 2, CAPTURE and FREEZE. -/
def watching : State :=
  serving.putMonitor 2
    { resetMonitor with
      enable := true, kind := .skipPower, filter := .dl, v := 2#32, count := 0xFFFFFFFE#32
      actions := ⟨false, true, true⟩ }

/-- A decision about a handle, as an event and a trace entry. -/
def decided (s : State) (k : EventKind) (d : Direction) (slot : Nat) : State :=
  s.takeEvent { kind := k, dir := some d, who := some ⟨⟨slot, 1#8⟩, 0⟩, frame := some 1000#16 }
    (some ⟨1000#16, d, ⟨slot, 1#8⟩, .skipPower, 0, 2⟩)

/-- The capture after the freeze (section 8.4), event by event. -/
theorem test_capture_after_freeze :
    let s1 := decided watching .skipPower .dl 14
    let s2 := decided s1 .skipPower .dl 22
    let s3 := decided (decided s2 .grant .dl 30) .skipPower .ul 14
    let s4 := decided s3 .skipPower .dl 3
    let s5 := decided s4 .skipPower .dl 14
    let m (s : State) := s.monitor.monitors[2]
    (m s1).count = 0xFFFFFFFF#32
      ∧ ((m s2).count = 0xFFFFFFFE#32 ∧ (m s2).overflow = true ∧ (m s2).armed = true
        ∧ (m s2).enable = false ∧ s2.monitor.frozen = true)
      ∧ (m s3 = m s2 ∧ s3.monitor.records = [])
      ∧ ((m s4).armed = false ∧ s4.monitor.records.map CaptureRecord.handle = [some ⟨3, 1#8⟩])
      ∧ (s5.monitor = s4.monitor ∧ s5.monitor.trace.length = 2) := by
  decide +kernel

/-- Two monitors overflow on one event with the ALERT action: one notice, with the frame of the event; none
when the alert is latched already (R149). -/
theorem test_overflow_alert :
    let m : Monitor :=
      { resetMonitor with
        enable := true, count := 0xFFFFFFFF#32, actions := ⟨true, false, false⟩ }
    let s : State :=
      { serving with monitor := { serving.monitor with monitors := #v[m, m, resetMonitor, resetMonitor] } }
    let e : Event := { kind := .grant, dir := some .ul, who := none, frame := some 7#16 }
    let told := (s.takeEvent e none).notices.general.drop 1
    (s.takeEvent e none).hasAlert .monitorOverflow = true
      ∧ told = [⟨.alert ⟨.device .monitorOverflow, none, none, some 7#16⟩, .waiting⟩]
      ∧ ((s.setAlert .monitorOverflow).takeEvent e none).notices.general.length = 1 := by
  decide +kernel

/-- A buffer of `n` records under a policy, threshold 8, offered one more. -/
def offered (n : Nat) (p : Policy) : State :=
  let r : CaptureRecord := ⟨0, .grant, none, none, none, none⟩
  State.offerCapture
    { serving with
      monitor := { serving.monitor with records := List.replicate n r, policy := p, threshold := 8 } } r

/-- STOP against WRAP (section 8.5), and the notice of a rise to the threshold alone (R155). -/
theorem test_meets_EventTakenByMonitors :
    [(15, Policy.stop), (16, .stop), (15, .wrap), (16, .wrap)].map
        (fun p => ((offered p.1 p.2).monitor.records.length, (offered p.1 p.2).hasAlert .captureFull))
        = [(16, false), (16, true), (16, false), (16, false)]
      ∧ [6, 7, 8].map (fun n => (offered n .stop).notices.general.length) = [1, 2, 1]
      ∧ (let s : State := { offered 6 .stop with notices := fullSection.notices }
         let t := s.offerCapture ⟨0, .grant, none, none, none, none⟩
         s.monitor.records.length + 1 = s.monitor.threshold ∧ s.notices.general.length = 24
          ∧ t.hasAlert .noticeLost = true ∧ t.notices = s.notices ∧ t.monitor.records.length = 8) := by
  decide +kernel

/-! ### Construction (05) -/

/-- A pass under construction at slot 3, whose class 0 has a profile given and whose occupant is given. -/
def considering (p : Profile) (u : Subscriber) : State :=
  { (building 3).putSub 3 u with
    ranker := { (building 3).ranker with profileCopy := (building 3).ranker.profileCopy.set 0 p } }

theorem test_meets_ConstructSlotPassesOver :
    ((building 0).link.resetHeld = false ∧ (building 0).ranker.stage = .constructing
        ∧ (building 0).ranker.nextSlot < 96 ∧ ((building 0).slot 0).sub = none)
      ∧ ((building 95).ranker.nextSlot < 96 ∧ ((building 95).slot 95).sub = none)
      ∧ (((building 4).slot 4).sub.map Subscriber.life) = some .lost
      ∧ (let s : State :=
          { building 3 with
            ranker :=
              { (building 3).ranker with
                setupCopy := { resetPassSetup with staleLimit := 5, lostLimit := 9 } } }
         (s.slot 3).sub = some (member 0)
          ∧ s.ranker.setupCopy.lostLimit < (s.ranker.passIndex - (member 0).tracks.dl.lastSample).toNat) := by
  decide +kernel

/-- An age of 10 above and at the lost limit (R85). -/
theorem test_lost_edge :
    let limited (limit : Nat) : State :=
      { building 3 with
        ranker :=
          { (building 3).ranker with setupCopy := { resetPassSetup with lostLimit := limit } } }
    let t := after .constructSlot (limited 9)
    ((t.slot 3).sub.map fun u => (u.life, u.hasMember .lost)) = some (.lost, true)
      ∧ t.ranker.lists.dl = [] ∧ t.ranker.nextSlot = 4
      ∧ (after .constructSlot (limited 10)).ranker.lists.dl.length = 1 := by
  decide +kernel

theorem test_meets_ConstructSlotConsiders :
    (building 3).link.resetHeld = false ∧ (building 3).ranker.stage = .constructing
      ∧ (building 3).ranker.nextSlot < 96
      ∧ ((building 3).slot (building 3).ranker.nextSlot).sub = some (member 0)
      ∧ (member 0).life = .active
      ∧ ((building 3).ranker.passIndex - ((member 0).tracks.get .dl).lastSample).toNat ≤ 400
      ∧ ((building 3).ranker.passIndex - ((member 0).tracks.get .ul).lastSample).toNat ≤ 400 := by
  decide +kernel

/-- The metrics and credits of sections 5.5, 6.9 and 11.2. -/
theorem test_metrics_and_credits :
    [metric 36 6 16000, metric 80 4 1600, metric 120 4 3200, metric 24 4 160, metric 60 2 8,
        metric 36 4 48, deferred 819 .faded 1]
        = [55, 819, 614, 2457, 30720, 12288, 409]
      ∧ [creditRule .guaranteed 500 1 1200, creditRule .guaranteed 500 1 (-4500),
          creditRule .guaranteed 500 0 1100, creditRule .guaranteed 400 1 3000,
          creditRule .bestEffort 500 1 7] = [1700, -4000, 500, 3200, 0] := by
  decide +kernel

/-- A poll candidate at its interval and one pass short of it (R88): 20 passes since admission. -/
theorem test_poll_edge :
    let quiet : Subscriber := { member 0 with demand := ⟨(member 0).demand.dl, { (member 0).demand.ul with backlog := 0 }⟩ }
    let kinds (poll : Nat) :=
      (after .constructSlot (considering { resetProfile with poll := poll } quiet)).ranker.lists.ul.map
        Candidate.kind
    kinds 20 = [.poll] ∧ kinds 21 = [] ∧ kinds 0 = [] := by
  decide +kernel

/-- The downlink list of section 5.5: slot, tier and key of its seven candidates, in two frames. -/
theorem test_list_order :
    let c (slot tier : Nat) (key : OrderKey) : Candidate :=
      { candidate .data 1 with handle := ⟨slot, 1#8⟩, tier := tier, key := key }
    let list :=
      [c 3 0 .tie, c 7 2 (.metric 55), c 10 2 (.metric 409), c 12 2 (.metric 819),
        c 41 1 (.credit 1700), c 44 1 (.credit 200), c 50 2 (.metric 819)]
    let slots (n : U16) := (orderCandidates n list).map fun c => c.handle.slot
    slots 1000#16 = [3, 41, 44, 50, 12, 10, 7] ∧ slots 1024#16 = [3, 41, 44, 12, 50, 10, 7] := by
  decide +kernel

theorem test_meets_PlacementBegins : (building 95).ranker.newest = some 1000#16 := rfl

/-- Past slot 95 the Placers start with the pool of one carrier; the stale reading latches ENERGY_STALE. -/
theorem test_placement_begins :
    let t := after .constructSlot (building 95)
    t.ranker.stage = .placing ∧ t.placers.dl.stage = .running ∧ t.placers.ul.pool = 24
      ∧ t.dlBudget = 4000 ∧ t.hasAlert .energyStale = true := by
  decide +kernel

/-! ### Placement (06) -/

/-- A downlink candidate of section 6.9: r, backlog, cost, class minimum. -/
def wants (r backlog cost min : Nat) : Candidate :=
  { candidate .data backlog with r := r, dlCost := cost, minTiles := min }

/-- The worked case of section 6.9, and the sliver skip of section 6.3. -/
theorem test_tile_counts :
    (wants 60 500 40 2).tileCount .dl 24 2000 = .grant 9
      ∧ (wants 24 200 300 2).tileCount .dl 15 1640 = .grant 5
      ∧ (wants 120 2000 25 2).tileCount .dl 10 140 = .grant 5
      ∧ (wants 24 200 300 6).tileCount .dl 15 1640 = .sliver 5
      ∧ (wants 120 2000 25 2).tileCount .dl 15 1640 = .grant 12
      ∧ (wants 24 200 300 2).tileCount .dl 24 299 = .power := by
  decide +kernel

/-- The runs and guards of section 6.4, as the carrier and tile of each run, the guards and the pointer after. -/
theorem test_runs_and_guards :
    let p (carrier tile pool : Nat) : Placer :=
      { startedPlacer [] 2 with ptrCarrier := carrier, ptrTile := tile, pool := pool }
    layOut (p 0 0 48) 1 false = ⟨⟨0, 0, 1, false⟩, none, 0, 0, 1⟩
      ∧ layOut (p 0 1 47) 30 true = ⟨⟨0, 1, 23, false⟩, some ⟨1, 0, 7, true⟩, 1, 1, 8⟩
      ∧ layOut (p 1 8 16) 16 true = ⟨⟨1, 8, 16, false⟩, none, 0, 1, 24⟩
      ∧ layOut (p 1 8 16) 15 true = ⟨⟨1, 8, 15, true⟩, none, 1, 1, 24⟩
      ∧ layOut (p 0 12 36) 12 false = ⟨⟨0, 12, 12, false⟩, none, 0, 1, 0⟩ := by
  decide +kernel

/-- The placing state with another candidate, pool, or downlink budget. -/
def placingWith (c : Candidate) (pool budget : Nat) : State :=
  { placingList [c] with
    placers := .both { startedPlacer [c] 1 with pool := pool, ptrTile := 24 - pool }
    dlBudget := budget }

theorem test_meets_PlacerSkips :
    let gone := placingList [{ candidate .data 500 with handle := ⟨3, 2#8⟩ }]
    let s := placingWith (candidate .data 500) 24 39
    (gone.link.resetHeld = false ∧ gone.ranker.stage = .placing ∧ gone.placers.dl.stage = .running
        ∧ gone.ranker.newest = some 1000#16 ∧ gone.lookup ⟨3, 2#8⟩ = none)
      ∧ (s.lookup ⟨3, 1#8⟩ = some (member 0) ∧ s.placers.dl.pool ≠ 0 ∧ s.dlBudget / 40 = 0)
      ∧ ({ candidate .data 500 with ulCap := 0 } : Candidate).ulCap = 0 := by
  decide +kernel

/-- The trace result, tiles and the pointer a decision leaves. -/
def decision (s : State) (d : Direction) : List (TraceResult × Nat) × Nat × Nat :=
  let t := after (.placeCandidate d false) s
  (t.monitor.trace.map fun e => (e.result, e.tiles), (t.placers.get d).reached, (t.placers.get d).pool)

/-- GONE before the pool check, POWER at one pq below the cost, SLIVER at one tile below the minimum. -/
theorem test_skips :
    decision (placingWith { candidate .data 500 with handle := ⟨3, 2#8⟩ } 0 0) .dl
        = ([(.skipGone, 0)], 1, 0)
      ∧ decision (placingWith (candidate .data 500) 24 39) .dl = ([(.skipPower, 0)], 1, 24)
      ∧ decision (placingWith { candidate .data 500 with ulCap := 0 } 24 0) .ul
        = ([(.skipPower, 0)], 1, 24)
      ∧ decision (placingWith (candidate .data 500) 1 2000) .dl = ([(.skipSliver, 1)], 1, 1)
      ∧ decision (placingWith (candidate .data 60) 1 2000) .dl = ([(.granted, 1)], 1, 0) := by
  decide +kernel

theorem test_meets_PlacerGrants :
    placing.link.resetHeld = false ∧ placing.ranker.stage = .placing
      ∧ (placing.placers.get .dl).stage = .running ∧ placing.ranker.newest = some 1000#16
      ∧ (placing.placers.get .dl).list[(placing.placers.get .dl).next - 1]? = some (candidate .data 500)
      ∧ placing.lookup (candidate .data 500).handle = some (member 0)
      ∧ (placing.placers.get .dl).pool ≠ 0 ∧ placing.dlBudget / (candidate .data 500).dlCost ≠ 0
      ∧ ¬(9 < (candidate .data 500).minTiles) := by
  decide +kernel

/-- C of the worked case: 9 tiles, 500 bytes, 360 pq; on the uplink its cap of 8 and a guard tile. -/
theorem test_grants :
    let dl := after (.placeCandidate .dl false) placing
    let ul := after (.placeCandidate .ul true) placing
    (dl.dlBudget = 1640 ∧ dl.dlSpent = 360 ∧ dl.placers.dl.pool = 15 ∧ dl.placers.dl.ptrTile = 9)
      ∧ ((dl.slot 3).sub.map fun u => (u.demand.dl.backlog, u.service.dl.lastGrant))
        = some (0, some 50#32)
      ∧ ((dl.slot 3).sub.map fun u => u.demand.dl.ring[0])
        = some ⟨true, 1000#16, .data, 9, 500, .pending⟩
      ∧ (ul.placers.ul.pool = 15 ∧ ul.placers.ul.guards = 1 ∧ ul.placers.ul.ptrTile = 9)
      ∧ ((ul.slot 3).sub.map fun u => u.demand.ul.backlog) = some 20 := by
  decide +kernel

/-- The DL Placer running and the UL Placer ended, the assembler with a record if asked. -/
def lastPlacer (list : List Candidate) (pending : List GrantRecord) : State :=
  let s := placingList list
  { s with
    placers := ⟨s.placers.dl, { s.placers.ul with stage := .ended .listDone }⟩
    notices :=
      { s.notices with
        assemblers :=
          ⟨{ openedAssembler 1000#16 50#32 8 with pending := pending },
            { openedAssembler 1000#16 50#32 8 with stage := .closed }⟩ } }

/-- A grant record. -/
def aRecord : GrantRecord := ⟨1000#16, .dl, ⟨3, 1#8⟩, 2, .data, 6, ⟨0, 0, 9, false⟩, none, 500⟩

theorem test_meets_PlacerEnds :
    ((lastPlacer [] []).ranker.cause = none ∧ (lastPlacer [] []).placers.dl.stage = .running
        ∧ (lastPlacer [] []).placers.dl.list[(lastPlacer [] []).placers.dl.next - 1]? = none
        ∧ (lastPlacer [] []).placers.ul.hasEnded = true)
      ∧ ((placingWith (candidate .data 500) 0 2000).placers.dl.pool = 0
        ∧ ((placingWith (candidate .data 500) 0 2000).lookup ⟨3, 1#8⟩) = some (member 0))
      ∧ (cutShort.ranker.cause.isSome = true ∧ cutShort.ranker.stage = .placing
        ∧ cutShort.placers.dl.list[cutShort.placers.dl.next - 1]? = some (candidate .data 500)) := by
  decide +kernel

/-- LIST_DONE completes the pass, POOL_EMPTY and STOPPED end one Placer; a candidate begun is finished. -/
theorem test_placer_ends :
    let done := after (.placeCandidate .dl false) (lastPlacer [] [aRecord])
    (done.ranker.stage = .idle ∧ done.placers.dl.stage = .ended .listDone
        ∧ done.monitor.passes = 51#32 ∧ done.notices.grants.length = 2)
      ∧ (after (.placeCandidate .dl false) (placingWith (candidate .data 500) 0 2000)).placers.dl.stage
        = .ended .poolEmpty
      ∧ (after (.placeCandidate .dl false) cutShort).placers.dl.grants = 0
      ∧ (after (.placeCandidate .dl true) cutShort).placers.dl.grants = 1
      ∧ (after (.placeCandidate .dl true) cutShort).placers.dl.stage = .ended .stopped := by
  decide +kernel

/-- A candidate finished after a truncation, with the line free and chunks of one record: its chunk is chosen
before the Placer's end, and the notices wait (R133, R174; log 22). -/
theorem test_truncated_candidate_is_offered :
    let s : State :=
      { cutShort with
        link := { cutShort.link with tx := none }
        notices :=
          { cutShort.notices with
            general := [], assemblers := .both (openedAssembler 1000#16 50#32 1) } }
    let t := after (.placeCandidate .dl true) s
    t.placers.dl.stage = .ended .stopped ∧ (t.link.tx.map Transmission.source) = some .grants
      ∧ (t.notices.grants.map GrantEntry.mark) = [.sending] := by
  decide +kernel

theorem test_meets_ChunksFollowRecords :
    let a := placing.notices.assemblers.get .dl
    a.pending = [] ∧ a.pending.length + 1 ≠ a.chunk
      ∧ (openedAssembler 1000#16 50#32 1).pending.length + 1 = (openedAssembler 1000#16 50#32 1).chunk
      ∧ (lastPlacer [] [aRecord]).notices.assemblers.dl.pending ≠ [] := by
  decide +kernel

/-! ### Completion, the deadline, resets -/

/-- The average in steady service (section 5.8), and the averages of section 11.2. -/
theorem test_averages :
    [averaged 0 600 5, averaged 300 600 5, averaged 591 600 5, averaged 873 600 5, averaged 9600 0 5,
        averaged 14000 900 5, averaged 1200 1440 5, averaged 48 288 5]
      = [300, 591, 873, 1146, 9300, 14013, 1883, 191] := by
  decide +kernel

/-- A view that names the occupant gives its grant's payload, whatever has come between (log 33); one of another
generation gives 0 (R102). -/
theorem test_view_payload :
    let v : SlotView := ⟨some ⟨3, 1#8⟩, true, ⟨500, 500⟩, ⟨some ⟨9, 500⟩, none⟩⟩
    viewPayload v ⟨3, 1#8⟩ .dl = 500 ∧ viewPayload v ⟨3, 1#8⟩ .ul = 0 ∧ viewPayload v ⟨3, 2#8⟩ .dl = 0 := by
  decide

/-- The guarantee that is not met (section 5.8): the credit at the edge of 4g, the count at its limit. -/
theorem test_shortfall_edges :
    fallsShort .guaranteed 500 1999 = false ∧ fallsShort .guaranteed 500 2000 = true
      ∧ fallsShort .bestEffort 500 9999 = false ∧ fallsShort .guaranteed 0 0 = false
      ∧ [shortfallAfter 0 true 3, shortfallAfter 1 true 3, shortfallAfter 2 true 3, shortfallAfter 2 false 3]
        = [1, 2, 0, 0]
      ∧ (shortfallLatches 1 true 3 = false ∧ shortfallLatches 2 true 3 = true)
      ∧ (starveAfter 49 none 1 50 = 0 ∧ starveAfter 48 none 1 50 = 49 ∧ starveAfter 9 none 0 50 = 9
        ∧ starveAfter 9 (some ⟨1, 1⟩) 1 50 = 0) := by
  decide +kernel

theorem test_meets_CompletionKeepsAccounts :
    placing.ranker.newest = some 1000#16
      ∧ ((placing.slot 3).sub = some (member 0) ∧ (member 0).life = .active)
      ∧ ((placing.view 3).seen = some ⟨3, 1#8⟩ ∧ (placing.view 3).active = true
        ∧ (placing.view 3).grant.dl = none ∧ 0 < (placing.view 3).backlog.dl)
      ∧ ((placing.slot 5).sub.map Subscriber.life) = some .suspended := by
  decide +kernel

/-- The pass timed out with a starve limit of 1 and a general section of `n` notices. -/
def starving (n : Nat) : State :=
  { placing with
    ranker :=
      { placing.ranker with
        cause := some .deadline, setupCopy := { placing.ranker.setupCopy with starveLimit := 1 } }
    notices :=
      { placing.notices with
        general := List.replicate n ⟨.capture ⟨1, none⟩, .waiting⟩ } }

/-- The alerts of a completion in their order, and what a section with less room drops (R101, R142). -/
theorem test_completion_alerts :
    let told (n : Nat) := ((starving n).complete.notices.general.drop n).map fun e =>
      match e.notice with
      | .alert a => (a.kind, a.dir, a.handle.isSome)
      | .capture _ => (.lost, none, false)
    let lost (n : Nat) := (starving n).complete.hasAlert .noticeLost
    told 0 = [(.starved, some .dl, true), (.starved, some .ul, true), (.device .deadline, none, false)]
      ∧ told 23 = [(.starved, some .dl, true)]
      ∧ (lost 21 = false ∧ lost 22 = true ∧ lost 24 = true)
      ∧ (starving 24).complete.hasAlert .deadline = true := by
  decide +kernel

/-- An ungranted subscriber that was seen waits one pass more; its MAP_END carries both unreached. -/
theorem test_completion_counts :
    let t := placing.complete
    ((t.slot 3).sub.map fun u => (u.service.dl.starve, u.service.ul.starve)) = some (1, 1)
      ∧ t.ranker.stage = .idle ∧ t.ranker.timer = .idle ∧ t.monitor.passes = 51#32
      ∧ (t.notices.grants.map fun e => match e.notice with
          | .mapEnd m => (m.cause, m.figures.dl.unreached, m.figures.ul.unreached)
          | .chunk _ => (.complete, 0, 0)) = [(.complete, 1, 1)] := by
  decide +kernel

theorem test_meets_DeadlineExpires :
    (serving.link.resetHeld = false ∧ serving.ranker.timer ≠ .running)
      ∧ (placing.ranker.timer = .running ∧ placing.ranker.cause = none ∧ placing.ranker.stage = .placing)
      ∧ (cutShort.ranker.timer = .running ∧ cutShort.ranker.cause.isSome = true)
      ∧ (building 95).PassInv ∧ (building 95).ranker.timer = .running
      ∧ (building 95).ranker.stage = .constructing := by
  unfold State.PassInv placerInPass
  and_intros <;> decide +kernel

/-- A construction cut off with one candidate on the uplink list: the allowance is taken, both Placers end
STOPPED, the candidate is counted as unreached, and PASSES goes up (R98, R101, R105). -/
theorem test_cut_construction :
    let s : State :=
      { building 40 with
        ranker := { (building 40).ranker with lists := ⟨[], [candidate .data 500]⟩ } }
    let t := after .deadlineExpiry s
    t = (State.cutConstruction { s with ranker := { s.ranker with timer := .expired } } .deadline)
      ∧ (t.placers.dl.stage = .ended .stopped ∧ t.placers.ul.stage = .ended .stopped)
      ∧ (t.notices.grants.map fun e =>
          match e.notice with
          | .mapEnd m => [m.figures.dl.unreached, m.figures.ul.unreached, m.budget]
          | .chunk _ => []) = [[0, 1, 4000]]
      ∧ t.monitor.passes = 51#32 := by
  decide +kernel

theorem test_deadline :
    (after .deadlineExpiry placing).ranker.cause = some .deadline
      ∧ (after .deadlineExpiry placing).hasAlert .deadline = false
      ∧ (after .deadlineExpiry cutShort).ranker.cause = some .preempted
      ∧ (after .deadlineExpiry (building 95)).ranker.stage = .idle
      ∧ (after .deadlineExpiry (building 95)).hasAlert .deadline = true
      ∧ (after .deadlineExpiry (building 95)).monitor.passes = 51#32 := by
  decide +kernel

theorem test_meets_DeviceResets :
    serving.link.resetHeld = false ∧ held.link.resetHeld = true
      ∧ ({ serving with link := { serving.link with restart := .resetDue } } : State).link.restart
        = .resetDue := by
  decide +kernel

/-- The strap levels and the rates (R163), and the RESET line while held. -/
theorem test_resets :
    [(PinLevel.low, PinLevel.low), (.low, .high), (.high, .low), (.high, .high)].map
        (fun p => (after (.powerOn p.1 p.2) serving).link.lineRate)
        = [.mbaud3, .mbaud6, .mbaud12, .mbaud12]
      ∧ (after .resetLineAssert placing).ranker.stage = .idle
      ∧ (after .resetLineAssert placing).link.tx = none
      ∧ after (.powerOn .high .high) held = held
      ∧ (after (.resetLineRelease .low .high) held).link.lineRate = .mbaud6
      ∧ after (.resetLineRelease .low .high) serving = serving
      ∧ after (.restartReset .low .high) serving = serving := by
  decide +kernel

theorem test_meets_FrameCarriesItsCrc :
    let s := serving.putRx (.check 1#8 2#8 [] (some 0#8))
    s.Hears ∧ s.link.rx = .check 1#8 2#8 [] (some 0#8) ∧ ∃ t, exec (.receiveByte 0#8) s = .next t := by
  unfold State.Hears
  exact ⟨by decide +kernel, rfl, _, rfl⟩

/-! ### Invariants -/

theorem test_meets_PassInvariantKept :
    placing.PassInv ∧ ∃ t, step (placing.withPending [.placeCandidate .dl false]) = .next t := by
  refine ⟨?_, _, rfl⟩
  unfold State.PassInv placerInPass
  and_intros <;> decide +kernel

theorem test_meets_LineInvariantKept :
    serving.LineInv ∧ ∃ t, step (serving.withPending [.messageSent]) = .next t := by
  refine ⟨?_, _, rfl⟩
  unfold State.LineInv State.TxAgrees allWaiting
  and_intros <;> decide +kernel

/-- What holds of both directions holds of each. -/
theorem each_direction {p : Direction → Prop} (h1 : p .dl) (h2 : p .ul) (d : Direction) : p d := by
  cases d
  · exact h1
  · exact h2

theorem test_meets_GrantAndPlacementInvariantKept :
    placing.LineInv ∧ placing.PassInv ∧ placing.TablesInv ∧ placing.GrantInv ∧ placing.PlacementInv
      ∧ ∃ t, step (placing.withPending [.placeCandidate .ul false]) = .next t := by
  refine ⟨?_, ?_, ?_, ?_, ?_, _, rfl⟩
  · unfold State.LineInv State.TxAgrees allWaiting
    and_intros <;> decide +kernel
  · unfold State.PassInv placerInPass
    and_intros <;> decide +kernel
  · unfold State.TablesInv
    and_intros <;> decide +kernel
  · unfold State.GrantInv
    refine ⟨by decide +kernel, by decide +kernel, by decide +kernel, by decide +kernel, fun _ => ?_⟩
    exact ⟨by decide +kernel, each_direction (by decide +kernel) (by decide +kernel)⟩
  · unfold State.PlacementInv Placer.OnLine Candidate.InRange
    refine ⟨by decide +kernel, by decide +kernel, each_direction ?_ ?_, by decide +kernel⟩ <;>
      decide +kernel

/-- A record with a granted history entry is within its ranges. -/
theorem test_record_in_range :
    Subscriber.InRange
      { member 0 with demand := .both ⟨500, none, #v[blank, ⟨true, 997#16, .data, 48, 12240, .pending⟩, blank, blank]⟩ } := by
  unfold Subscriber.InRange Track.InRange Demand.InRange Service.InRange
  refine ⟨by decide, by decide, by decide, by simp [member], by decide, each_direction ?_ ?_⟩ <;>
    exact ⟨⟨by decide, by decide, by decide, by decide, by decide, by decide, by decide,
      by simp [member, trackAt, PerDir.get, PerDir.both]⟩, by decide, by decide⟩

theorem test_meets_RangesKept :
    State.reset.PlacementInv ∧ State.reset.RecordInv ∧ State.reset.TablesInv ∧ State.reset.EnergyInv
      ∧ State.reset.MonitorInv ∧ State.reset.InboundInv
      ∧ ∃ t, step (State.reset.withPending [.messageSent]) = .next t := by
  refine ⟨?_, fun n u h => ?_, ?_, ?_, ?_, ?_, _, rfl⟩
  · unfold State.PlacementInv Placer.OnLine Candidate.InRange
    refine ⟨by decide +kernel, by decide +kernel, each_direction ?_ ?_, by decide +kernel⟩ <;>
      decide +kernel
  · have free : ∀ n, (State.reset.slot n).sub = none := by
      intro n
      simp only [State.slot, State.reset, Vector.getElem?_replicate]
      split <;> rfl
    rw [free] at h
    cases h
  · unfold State.TablesInv
    and_intros <;> decide +kernel
  · unfold State.EnergyInv
    exact ⟨by decide +kernel, by decide +kernel, by decide +kernel, by decide +kernel, by simp [State.reset, resetEnergy]⟩
  · unfold State.MonitorInv
    decide +kernel
  · unfold State.InboundInv
    decide +kernel

end Sys2Proof.Tests
end

/-! ### What the operand forms of a request read (R6, R13, R16, R185) -/

namespace Sys2Proof.Machine

/-! #### Fields -/

theorem num1_le (b : List Byte) (i : Nat) : num1 b i ≤ 255 := by
  have : num1 b i < 256 := (byteAt b i).isLt
  omega

theorem num2_le (b : List Byte) (i : Nat) : num2 b i ≤ 65535 := by
  have := num1_le b i
  have := num1_le b (i + 1)
  unfold num2
  omega

theorem slotExists_iff (n : Nat) : slotExists n = true ↔ n ≤ 95 := by
  unfold slotExists Config.slotCount
  rw [decide_eq_true_eq]
  omega

theorem classOf_eq_some_iff {n : Nat} {c : Fin 8} : classOf n = some c ↔ c.val = n := by
  unfold classOf
  constructor
  · intro h
    split at h
    · cases h
      rfl
    · cases h
  · rintro rfl
    rw [dif_pos c.isLt]

/-- A class index up to 7 names a class. -/
theorem exists_classOf {n : Nat} (h : n ≤ 7) : ∃ c, classOf n = some c :=
  ⟨⟨n, by omega⟩, classOf_eq_some_iff.mpr rfl⟩

theorem flagOf_eq_false_iff {n : Nat} : flagOf n = some false ↔ n = 0 := by
  unfold flagOf
  split
  · simpa
  · split <;> simpa

theorem flagOf_eq_true_iff {n : Nat} : flagOf n = some true ↔ n = 1 := by
  unfold flagOf
  split
  · rename_i h
    simp [h]
  · split <;> simpa

theorem flagOf_eq_none_iff {n : Nat} : flagOf n = none ↔ 1 < n := by
  unfold flagOf
  split
  · rename_i h
    simp [h]
  · split
    · rename_i h
      simp [h]
    · simp only [true_iff]
      omega

/-- An anchor field reads absent, or a present handle whose slot exists (R6). -/
theorem anchorField_eq_some_iff {flag : Nat} {h : Handle} {a : Option Handle} :
    anchorField flag h = some a
      ↔ (flag ≤ 1 ∧ (flag = 1 → h.slot ≤ 95)) ∧ a = if flag = 1 then some h else none := by
  unfold anchorField
  split
  · rename_i hf
    have := flagOf_eq_none_iff.mp hf
    constructor
    · exact fun he => by cases he
    · rintro ⟨⟨h1, -⟩, -⟩
      omega
  · rename_i hf
    rw [flagOf_eq_false_iff.mp hf]
    simp [eq_comm]
  · rename_i hf
    rw [flagOf_eq_true_iff.mp hf]
    split
    · rename_i hs
      have := (slotExists_iff _).mp hs
      simp [this, eq_comm]
    · rename_i hs
      have : ¬h.slot ≤ 95 := fun hle => hs ((slotExists_iff _).mpr hle)
      simp [this]

/-! #### ADMIT (R6, R7) -/

/-- What R6 asks of the body of an ADMIT, first. -/
def AdmitOk (b : List Byte) : Prop :=
  num1 b 0 ≤ 7 ∧ num1 b 9 ≤ 16 ∧ num1 b 6 ≤ 1
    ∧ (num1 b 6 = 1 → (handleAtOffset b 7).slot ≤ 95)

/-- The fields are those of the body, clamped as section 1.4 gives. -/
structure AdmitReads (b : List Byte) (a : AdmitFields) : Prop where
  cls : a.cls.val = num1 b 0
  dlCost : a.dlCost = max 1 (min (num2 b 1) 4095)
  ulCap : a.ulCap = min (num1 b 3) 48
  timing : a.timing = min (num2 b 4) 1000
  anchor : a.anchor = if num1 b 6 = 1 then some (handleAtOffset b 7) else none
  anchorWeight : a.anchorWeight = num1 b 9
  quality : a.quality = ⟨min (num1 b 10) 127, min (num1 b 11) 127⟩

/-- A body read as an ADMIT passes R6's first check, and gives its fields. -/
theorem parseAdmit_reads {b : List Byte} {a : AdmitFields} (h : parseAdmit b = some a) :
    AdmitOk b ∧ AdmitReads b a := by
  unfold parseAdmit at h
  split at h
  · rename_i c x hc hx
    obtain ⟨⟨hflag, hslot⟩, hanchor⟩ := anchorField_eq_some_iff.mp hx
    have hcls := classOf_eq_some_iff.mp hc
    split at h
    · rename_i hw
      cases h
      exact ⟨⟨by omega, hw, hflag, hslot⟩, hcls, rfl, rfl, rfl, hanchor, rfl, rfl⟩
    · cases h
  · cases h

/-- A body that passes R6's first check is read. -/
theorem exists_parseAdmit {b : List Byte} (h : AdmitOk b) : ∃ a, parseAdmit b = some a := by
  obtain ⟨hc, hw, hanchor⟩ := h
  obtain ⟨c, hc⟩ := exists_classOf hc
  unfold parseAdmit
  rw [hc, anchorField_eq_some_iff.mpr ⟨hanchor, rfl⟩]
  dsimp only
  rw [if_pos hw]
  exact ⟨_, rfl⟩

theorem parseAdmit_eq_none {b : List Byte} (h : ¬AdmitOk b) : parseAdmit b = none :=
  Option.eq_none_iff_forall_ne_some.mpr fun _ ha => h (parseAdmit_reads ha).1

/-! #### LINK_UPDATE (R13) -/

/-- A field behind a presence bit is absent, or present with a value that is one of the field's. -/
theorem fieldIf_eq_some_iff {α : Type} {present : Bool} {value x : Option α} :
    fieldIf present value = some x
      ↔ (present = true → value.isSome = true) ∧ x = if present then value else none := by
  unfold fieldIf
  cases present <;> cases value <;> simp [eq_comm]

/-- The anchor action that a LINK_UPDATE names (10 section 10.5). -/
theorem anchorAction_eq_some_iff {present : Bool} {n : Nat} {h : Handle} {a : AnchorAction} :
    anchorAction present n h = some a
      ↔ (present = true → (n = 1 ∧ h.slot ≤ 95) ∨ n = 2)
          ∧ a = if present then (if n = 1 then .set h else .clear) else .keep := by
  unfold anchorAction
  cases present with
  | false => simp [eq_comm]
  | true =>
    by_cases h1 : n = 1
    · by_cases hs : slotExists h.slot = true
      · have := (slotExists_iff _).mp hs
        simp [h1, hs, this, eq_comm]
      · have : ¬h.slot ≤ 95 := fun hle => hs ((slotExists_iff _).mpr hle)
        simp [h1, hs, this]
    · by_cases h2 : n = 2
      · simp [h2, eq_comm]
      · simp [h1, h2]

/-- What R13 asks of the body of a LINK_UPDATE, second. -/
def LinkOk (b : List Byte) : Prop :=
  num1 b 2 < 64 ∧ ((num1 b 2).testBit 0 = true → num1 b 3 ≤ 7)
    ∧ ((num1 b 2).testBit 5 = true → num1 b 12 ≤ 16)
    ∧ ((num1 b 2).testBit 4 = true →
        (num1 b 9 = 1 ∧ (handleAtOffset b 10).slot ≤ 95) ∨ num1 b 9 = 2)

/-- The fields are the present ones of the body, clamped as section 1.8 gives. -/
structure LinkReads (b : List Byte) (l : LinkFields) : Prop where
  cls : l.cls.map Fin.val = if (num1 b 2).testBit 0 then some (num1 b 3) else none
  dlCost : l.dlCost = if (num1 b 2).testBit 1 then some (max 1 (min (num2 b 4) 4095)) else none
  ulCap : l.ulCap = if (num1 b 2).testBit 2 then some (min (num1 b 6) 48) else none
  timing : l.timing = if (num1 b 2).testBit 3 then some (min (num2 b 7) 1000) else none
  anchor : l.anchor =
    if (num1 b 2).testBit 4 then (if num1 b 9 = 1 then .set (handleAtOffset b 10) else .clear)
    else .keep
  anchorWeight : l.anchorWeight = if (num1 b 2).testBit 5 then some (num1 b 12) else none

/-- A body read as a LINK_UPDATE passes R13's second check, and gives its present fields. -/
theorem parseLink_reads {b : List Byte} {l : LinkFields} (h : parseLink b = some l) :
    LinkOk b ∧ LinkReads b l := by
  unfold parseLink at h
  dsimp only at h
  split at h
  · rename_i c a w hc ha hw
    obtain ⟨hcls, rfl⟩ := fieldIf_eq_some_iff.mp hc
    obtain ⟨haction, rfl⟩ := anchorAction_eq_some_iff.mp ha
    obtain ⟨hweight, rfl⟩ := fieldIf_eq_some_iff.mp hw
    have weight (hp : (num1 b 2).testBit 5 = true) : num1 b 12 ≤ 16 := by
      by_contra hn
      simpa [hn] using hweight hp
    split at h
    · rename_i hbits
      cases h
      refine ⟨⟨hbits, fun hp => ?_, weight, haction⟩, ?_, rfl, rfl, rfl, rfl, ?_⟩
      · obtain ⟨k, hk⟩ := Option.isSome_iff_exists.mp (hcls hp)
        have := classOf_eq_some_iff.mp hk
        omega
      · dsimp only
        split
        · rename_i hp
          obtain ⟨k, hk⟩ := Option.isSome_iff_exists.mp (hcls hp)
          rw [hk, Option.map_some, classOf_eq_some_iff.mp hk]
        · rfl
      · dsimp only
        split
        · rename_i hp
          rw [if_pos (weight hp)]
        · rfl
    · cases h
  · cases h

/-- A body that passes R13's second check is read. -/
theorem exists_parseLink {b : List Byte} (h : LinkOk b) : ∃ l, parseLink b = some l := by
  obtain ⟨hbits, hcls, hweight, haction⟩ := h
  have cls : (num1 b 2).testBit 0 = true → (classOf (num1 b 3)).isSome = true := fun hp =>
    Option.isSome_iff_exists.mpr (exists_classOf (hcls hp))
  have weight : (num1 b 2).testBit 5 = true →
      (if num1 b 12 ≤ 16 then some (num1 b 12) else none).isSome = true := fun hp => by
    rw [if_pos (hweight hp)]
    rfl
  unfold parseLink
  dsimp only
  rw [fieldIf_eq_some_iff.mpr ⟨cls, rfl⟩, anchorAction_eq_some_iff.mpr ⟨haction, rfl⟩,
    fieldIf_eq_some_iff.mpr ⟨weight, rfl⟩]
  dsimp only
  rw [if_pos hbits]
  exact ⟨_, rfl⟩

theorem parseLink_eq_none {b : List Byte} (h : ¬LinkOk b) : parseLink b = none :=
  Option.eq_none_iff_forall_ne_some.mpr fun _ hl => h (parseLink_reads hl).1

/-! #### CLASS_PROFILE (R16) -/

/-- What R16 asks of the body of a CLASS_PROFILE. -/
def ProfileOk (b : List Byte) : Prop :=
  num1 b 0 ≤ 7 ∧ num1 b 1 ≤ 2 ∧ (1 ≤ num1 b 2 ∧ num1 b 2 ≤ 15) ∧ (1 ≤ num1 b 7 ∧ num1 b 7 ≤ 48)
    ∧ (1 ≤ num1 b 8 ∧ num1 b 8 ≤ 48) ∧ (1 ≤ num1 b 9 ∧ num1 b 9 ≤ 8) ∧ num1 b 11 ≤ 4

/-- The profile a body carries (10 section 10.5). -/
def profileOf (b : List Byte) : Profile :=
  { kind := if num1 b 1 = 0 then .emergency else if num1 b 1 = 1 then .guaranteed else .bestEffort
    weight := num1 b 2
    rate := ⟨num2 b 3, num2 b 5⟩
    maxTiles := ⟨num1 b 7, num1 b 8⟩
    minTiles := num1 b 9
    poll := num1 b 10
    defer := num1 b 11 }

theorem classKindOf_eq_some_iff {n : Nat} {k : ClassKind} :
    classKindOf n = some k
      ↔ n ≤ 2 ∧ k = if n = 0 then .emergency else if n = 1 then .guaranteed else .bestEffort := by
  unfold classKindOf
  by_cases h0 : n = 0
  · simp [h0, eq_comm]
  · by_cases h1 : n = 1
    · simp [h1, eq_comm]
    · by_cases h2 : n = 2
      · simp [h2, eq_comm]
      · have : ¬n ≤ 2 := by omega
        simp [h0, h1, h2, this]

theorem parseProfile_eq_some_iff {b : List Byte} {c : Fin 8} {p : Profile} :
    parseProfile b = some (c, p) ↔ ProfileOk b ∧ c.val = num1 b 0 ∧ p = profileOf b := by
  constructor
  · intro h
    unfold parseProfile at h
    split at h
    · rename_i x k hx hk
      obtain ⟨hkind, rfl⟩ := classKindOf_eq_some_iff.mp hk
      have hcls := classOf_eq_some_iff.mp hx
      split at h
      · rename_i hr
        cases h
        exact ⟨⟨by omega, hkind, by omega, by omega, by omega, by omega, by omega⟩, hcls, rfl⟩
      · cases h
    · cases h
  · rintro ⟨⟨-, hkind, hweight, hdl, hul, hmin, hdefer⟩, hc, rfl⟩
    unfold parseProfile
    rw [classOf_eq_some_iff.mpr hc, classKindOf_eq_some_iff.mpr ⟨hkind, rfl⟩]
    dsimp only
    rw [if_pos (by omega)]
    rfl

theorem parseProfile_eq_none {b : List Byte} (h : ¬ProfileOk b) : parseProfile b = none :=
  Option.eq_none_iff_forall_ne_some.mpr fun _ hp => h (parseProfile_eq_some_iff.mp hp).1

/-- The profile of a body that passes R16's checks is one that stays acceptable. -/
theorem profileOf_valid {b : List Byte} (h : ProfileOk b) : (profileOf b).valid = true := by
  obtain ⟨-, -, hweight, hdl, hul, hmin, hdefer⟩ := h
  have := num2_le b 3
  have := num2_le b 5
  have := num1_le b 10
  refine decide_eq_true ?_
  dsimp only [profileOf]
  omega

end Sys2Proof.Machine

/-! ### What the commands of one family keep

Each lemma takes what its command calls apart: a property that the calls keep holds of every state the
command leads to. -/

namespace Sys2Proof.Machine

/-- Every state that the outcome goes on with meets `q`. -/
def LeadsTo (o : Host.Outcome State Fault Refusal) (q : State → Prop) : Prop :=
  ∀ t, o = .next t → q t

theorem LeadsTo.next {s : State} {q : State → Prop} (h : q s) : LeadsTo (.next s) q :=
  fun t ht => by cases ht; exact h

section
variable {q : State → Prop} {s : State} (h : q s)
include h

/-! #### Requests -/

section
variable (answering : ∀ s f r d, q s → q (s.joinAnswer f r d))
include answering

/-- The decoding of a frame by its length, its state rule and its block (R170). -/
theorem State.decodeFrame_keeps {block : List Byte → State → Reply}
    (hb : ∀ b s, q s → q (block b s).state) (f : Frame) (len : Nat) (rule : State → Option Result) :
    q (s.decodeFrame f len rule block) := by
  unfold State.decodeFrame
  split
  · exact answering _ _ _ _ h
  · split
    · exact answering _ _ _ _ h
    · exact answering _ _ _ _ (hb _ _ h)

/-- A request of fixed length. -/
theorem State.runRequest_keeps {block : List Byte → State → Reply}
    (hb : ∀ b s, q s → q (block b s).state) (k : Request) (len : Nat)
    (rule : State → Option Result) : LeadsTo (s.runRequest k len rule block) q := by
  unfold State.runRequest
  split
  · exact .next h
  · exact .next (State.decodeFrame_keeps h answering hb _ len rule)

theorem execMonitorSetup_keeps (hb : ∀ b s, q s → q (monitorSetupBlock b s).state) :
    LeadsTo (execMonitorSetup s) q := by
  unfold execMonitorSetup
  split
  · exact .next h
  · exact .next (State.decodeFrame_keeps h answering hb _ 13 anyState)

theorem execMonitorSetupBuffer_keeps (hb : ∀ b s, q s → q (bufferSetupBlock b s).state) :
    LeadsTo (execMonitorSetupBuffer s) q := by
  unfold execMonitorSetupBuffer
  split
  · exact .next h
  · exact .next (State.decodeFrame_keeps h answering hb _ 13 anyState)

theorem execUnknownKindRequest_keeps : LeadsTo (execUnknownKindRequest s) q := by
  unfold execUnknownKindRequest
  split
  · exact .next h
  · exact .next (answering _ _ _ _ h)

/-- RESTART: refused, or answered and its reset awaited (R178). -/
theorem execRestart_keeps (await : ∀ s, q s → q s.awaitRestart) : LeadsTo (execRestart s) q := by
  unfold execRestart
  split
  · exact .next h
  · refine .next ?_
    unfold State.decodeRestart
    split
    · exact answering _ _ _ _ h
    · split
      · exact answering _ _ _ _ h
      · exact await _ (answering _ _ _ _ h)

/-- SERVICE_OFF: refused, or waiting until no pass is in flight (R177). -/
theorem execServiceOff_keeps (defer : ∀ s w c, q s → q (s.deferUntilIdle w c)) :
    LeadsTo (execServiceOff s) q := by
  unfold execServiceOff
  split
  · exact .next h
  · refine .next ?_
    unfold State.decodeServiceOff
    split
    · exact answering _ _ _ _ h
    · split
      · exact answering _ _ _ _ h
      · exact defer _ _ _ h

/-- FRAME_MARK: refused, or waiting until no pass is in flight (R81, R99). -/
theorem execFrameMark_keeps (defer : ∀ s w c, q s → q (s.deferUntilIdle w c)) :
    LeadsTo (execFrameMark s) q := by
  unfold execFrameMark
  split
  · exact .next h
  · refine .next ?_
    unfold State.decodeFrameMark
    split
    · exact answering _ _ _ _ h
    · split
      · exact answering _ _ _ _ h
      · split
        · exact answering _ _ _ _ h
        · exact defer _ _ _ h

/-- A batch: its entries one by one, their events, and its answer or a pause between two entries. -/
theorem State.runBatch_keeps {apply : List Byte → State → EntryTaken}
    (arbiter : ∀ s, q s → q s.arbitrate) (events : ∀ (es : List Event) s, q s → q (s.takeEvents es))
    (entry : ∀ e s, q s → q (apply e s).state)
    (pause : ∀ s p, q s → q { s with link := { s.link with decoding := .batch p } })
    (k : Request) (codesOk : List Byte → Bool) (n : Nat) :
    LeadsTo (s.runBatch k codesOk apply n) q := by
  have entries (f : Frame) (p : BatchProgress) :
      q (s.continueBatch f (entrySize k) apply p n) := by
    have taken := State.takeEntries_keeps q apply arbiter events entry
      (((batchEntries (entrySize k) f.body).drop p.taken).take n) p s h
    unfold State.continueBatch
    dsimp only
    split
    · exact arbiter _ (events _ _ (answering _ _ _ _ taken))
    · exact arbiter _ (events _ _ (pause _ _ taken))
  unfold State.runBatch
  split
  · exact .next h
  · exact .next (entries _ _)
  · split
    · exact .next (answering _ _ _ _ h)
    · split
      · exact .next (entries _ _)
      · exact .next (answering _ _ _ _ h)

end

/-! #### The two sides of the line -/

/-- FRAMING_ERROR: a frame discarded or the receiver back in HUNT, and the wait for the idle line (R164). -/
theorem execFramingError_keeps (discard : ∀ s a, q s → q (s.discardFrame a))
    (hunt : ∀ s, q s → q (s.putRx .hunt))
    (wait : ∀ s, q s → q { s with link := { s.link with rxAwaitIdle := true } })
    (arbiter : ∀ s, q s → q s.arbitrate) : LeadsTo (execFramingError s) q := by
  unfold execFramingError
  split
  · refine .next (arbiter _ (wait _ ?_))
    split
    · exact discard _ _ h
    · exact hunt _ h
  · exact .next h

/-- FRAME_IDLE_TIMEOUT: a frame discarded, or the receiver back in HUNT (R166). -/
theorem execFrameIdleTimeout_keeps (discard : ∀ s a, q s → q (s.discardFrame a))
    (hunt : ∀ s, q s → q (s.putRx .hunt)) (arbiter : ∀ s, q s → q s.arbitrate) :
    LeadsTo (execFrameIdleTimeout s) q := by
  unfold execFrameIdleTimeout
  split
  · exact .next h
  · refine .next ?_
    split
    · exact arbiter _ (discard _ _ h)
    · exact hunt _ h

/-- MESSAGE_SENT: the message leaves the line, and the next is chosen or a restart's reset is due (R133,
R178). -/
theorem execMessageSent_keeps (leave : ∀ s t, q s → q (s.leaveLine t))
    (due : ∀ s, q s → q { s with link := { s.link with restart := .resetDue } })
    (arbiter : ∀ s, q s → q s.arbitrate) : LeadsTo (execMessageSent s) q := by
  unfold execMessageSent
  split
  · exact .next h
  · split
    · exact .next (due _ (leave _ _ h))
    · exact .next (arbiter _ (leave _ _ h))

end

end Sys2Proof.Machine

/-! ### The groups of a record stay within their ranges (R21, R46, R47, R80) -/

namespace Sys2Proof.Machine

/-! #### The bounds that an accepted setup or profile gives -/

/-- The limits of a track setup that bound what a track counts (R43). -/
theorem TrackSetup.valid_bounds {c : TrackSetup} (h : c.valid = true) :
    c.settle ≤ 15 ∧ c.dEnter ≤ 15 ∧ c.dExit ≤ 15 ∧ c.poorLimit ≤ 63 := by
  simp only [TrackSetup.valid, decide_eq_true_eq] at h
  omega

/-- The limits of a pass setup that bound what a service group counts (R106). -/
theorem PassSetup.valid_bounds {p : PassSetup} (h : p.valid = true) :
    p.starveLimit ≤ 255 ∧ p.shortfallLimit ≤ 255 := by
  simp only [PassSetup.valid, decide_eq_true_eq] at h
  omega

/-- The rate of a direction is a two-byte number (R16). -/
theorem Profile.valid_rate {p : Profile} (h : p.valid = true) (d : Direction) :
    p.rate.get d ≤ 65535 := by
  simp only [Profile.valid, decide_eq_true_eq] at h
  obtain ⟨-, -, hdl, hul, -⟩ := h
  cases d
  · exact hdl
  · exact hul

/-! #### Tracks (R21, R25 to R34) -/

/-- Truncating division never passes 0 or its dividend upwards. -/
theorem trunc0_le (x : Int) (k : Nat) : trunc0 x k ≤ max 0 x := by
  unfold trunc0
  rcases le_total 0 x with hx | hx
  · exact le_max_of_le_right (Int.tdiv_le_self _ hx)
  · have hy : 0 ≤ (-x).tdiv (2 ^ k) := Int.tdiv_nonneg (by omega) (by positivity)
    rw [Int.neg_tdiv] at hy
    omega

/-- A filter moves its estimate no higher than the estimate and the sample (R25, R26). -/
theorem moveToward_le {f s b : Nat} (hf : f ≤ b) (hs : s ≤ b) (k : Nat) : moveToward f s k ≤ b := by
  have := trunc0_le ((s : Int) - f) k
  unfold moveToward
  omega

/-- A reported quality in sixteenths (R22). -/
theorem clampQuality_le (v : Nat) : clampQuality v * 16 ≤ 2032 := by
  unfold clampQuality
  omega

theorem bumpFadeSamples_le {n : Nat} (h : n ≤ 255) : bumpFadeSamples n ≤ 255 := by
  unfold bumpFadeSamples
  split <;> omega

/-- The fade detector's registers rewritten within their ranges. -/
theorem Track.InRange.with_fade {t : Track} (h : t.InRange) (x : FadeState) {b n : Nat} (hb : b ≤ 15)
    (hn : n ≤ 255) : Track.InRange { t with fade := x, debounce := b, fadeSamples := n } := by
  obtain ⟨hf, hl, -, -, rest⟩ := h
  exact ⟨hf, hl, hb, hn, rest⟩

/-- The settle count rewritten within its range. -/
theorem Track.InRange.with_settle {t : Track} (h : t.InRange) {n : Nat} (hn : n ≤ 15) :
    Track.InRange { t with settle := n } := by
  obtain ⟨hf, hl, hd, hs, -, rest⟩ := h
  exact ⟨hf, hl, hd, hs, hn, rest⟩

/-- Both estimates rewritten within their range. -/
theorem Track.InRange.with_estimates {t : Track} (h : t.InRange) {f l : Nat} (hf : f ≤ 2032)
    (hl : l ≤ 2032) : Track.InRange { t with f := f, l := l } := by
  obtain ⟨-, -, rest⟩ := h
  exact ⟨hf, hl, rest⟩

/-- The outcome registers rewritten within their ranges. -/
theorem Track.InRange.with_outcome {t : Track} (h : t.InRange) {o : Int} {n : Nat}
    (ho : -640 ≤ o ∧ o ≤ 160) (hn : n ≤ 63) : Track.InRange { t with offset := o, poor := n } := by
  obtain ⟨hf, hl, hd, hs, he, -, -, ha⟩ := h
  exact ⟨hf, hl, hd, hs, he, ho, hn, ha⟩

/-- A sample recorded with an anchor reference in range (R32). -/
theorem Track.InRange.recorded {t : Track} (h : t.InRange) (now : U32) {ref : Option Nat}
    (hr : ∀ a, ref = some a → a ≤ 2032) : (t.recorded now ref).InRange := by
  obtain ⟨hf, hl, hd, hs, he, ho, hp, -⟩ := h
  exact ⟨hf, hl, hd, hs, he, ho, hp, hr⟩

theorem Track.InRange.settleSample {t : Track} (h : t.InRange) {s : Nat} (hs : s ≤ 2032) :
    (t.settleSample s).InRange := by
  have ⟨hf, _, _, _, he, _⟩ := h
  have moved := moveToward_le hf hs 1
  have settled := (h.with_estimates moved moved).with_settle ((Nat.sub_le _ 1).trans he)
  exact settled.with_fade .steady (Nat.zero_le _) (Nat.zero_le _)

theorem Track.InRange.filterSample {t : Track} (h : t.InRange) (c : TrackSetup) {s : Nat}
    (hs : s ≤ 2032) : (t.filterSample c s).InRange := by
  have ⟨hf, hl, _⟩ := h
  have moved := moveToward_le hf hs c.bf
  refine h.with_estimates moved ?_
  split
  · exact moveToward_le hl moved c.bl
  · exact hl

/-- The debounce count stays below the count that ends it (R28, R29). -/
theorem Track.InRange.detect {t : Track} (h : t.InRange) {c : TrackSetup} (hc : c.valid = true) :
    (t.detect c).1.InRange := by
  obtain ⟨-, hEnter, hExit, -⟩ := TrackSetup.valid_bounds hc
  have ⟨_, _, hdebounce, hcount, _⟩ := h
  have hbump := bumpFadeSamples_le hcount
  unfold Track.detect
  split
  case h_1 =>
    split
    · split
      · exact h.with_fade .faded (by omega) (by omega)
      · exact h.with_fade .entering (by omega) hcount
    · exact h
  case h_2 =>
    split
    · split
      · exact h.with_fade .faded (by omega) (by omega)
      · exact h.with_fade t.fade (by omega) hcount
    · exact h.with_fade .steady (by omega) hcount
  case h_3 =>
    split
    · split
      · exact h.with_fade .steady (by omega) (by omega)
      · exact h.with_fade .leaving (by omega) hbump
    · exact h.with_fade t.fade hdebounce hbump
  case h_4 =>
    split
    · split
      · exact h.with_fade .steady (by omega) (by omega)
      · exact h.with_fade t.fade (by omega) hbump
    · exact h.with_fade .faded (by omega) hbump

theorem Track.InRange.reseed {t : Track} (h : t.InRange) {c : TrackSetup} (hc : c.valid = true) :
    (t.reseed c).InRange :=
  ((h.with_estimates h.1 h.1).with_settle (TrackSetup.valid_bounds hc).1).with_fade .steady
    (Nat.zero_le _) (Nat.zero_le _)

/-- A sample on either path of R23. -/
theorem Track.InRange.takeSample {t : Track} (h : t.InRange) {c : TrackSetup} (hc : c.valid = true)
    {s : Nat} (hs : s ≤ 2032) : (t.takeSample c s).1.InRange := by
  have detected := (h.filterSample c hs).detect hc
  unfold Track.takeSample Track.ordinarySample
  split
  · exact h.settleSample hs
  · dsimp only
    split
    · exact detected.reseed hc
    · exact detected

theorem Track.InRange.delivered {t : Track} (h : t.InRange) (c : TrackSetup) :
    (t.delivered c).InRange := by
  have ⟨_, _, _, _, _, ho, _⟩ := h
  exact h.with_outcome (by omega) (Nat.zero_le _)

/-- The poor count stays below the limit that resets it (R34). -/
theorem Track.InRange.failed {t : Track} (h : t.InRange) {c : TrackSetup} (hc : c.valid = true) :
    (t.failed c).InRange := by
  have ⟨_, _, _, _, _, ho, hp, _⟩ := h
  obtain ⟨-, -, -, hlimit⟩ := TrackSetup.valid_bounds hc
  refine h.with_outcome ?_ ?_
  · unfold Track.failedOffset
    omega
  · split
    · split <;> omega
    · exact hp

/-! #### Demand groups (R46 to R49, R52, R57, R58) -/

/-- A written entry within its ranges (R47). -/
def HistoryEntry.InRange (e : HistoryEntry) : Prop :=
  e.written = true → 1 ≤ e.tiles ∧ e.tiles ≤ 48 ∧ e.served ≤ 12240

/-- A demand group is in range when its backlog and the entries of its ring are. -/
theorem Demand.inRange_iff (g : Demand) :
    g.InRange ↔ g.backlog ≤ 1048575 ∧ ∀ i : Fin 4, g.ring[i].InRange := Iff.rfl

/-- The ring mapped entry by entry. -/
theorem Demand.InRange.map_ring {g : Demand} (h : g.InRange) {f : HistoryEntry → HistoryEntry}
    (hf : ∀ e, e.InRange → (f e).InRange) (x : Option U16) :
    Demand.InRange { g with stamp := x, ring := g.ring.map f } := by
  rw [Demand.inRange_iff] at h ⊢
  refine ⟨h.1, fun i => ?_⟩
  simpa using hf _ (h.2 i)

/-- One entry of the ring written, with the backlog. -/
theorem Demand.InRange.set_ring {g : Demand} (h : g.InRange) (i : Fin 4) {e : HistoryEntry} {b : Nat}
    (he : e.InRange) (hb : b ≤ 1048575) :
    Demand.InRange { g with backlog := b, ring := g.ring.set i e } := by
  rw [Demand.inRange_iff] at h ⊢
  refine ⟨hb, fun j => ?_⟩
  simp only [Fin.getElem_fin, Vector.getElem_set]
  split
  · exact he
  · exact h.2 j

theorem Demand.InRange.retire {g : Demand} (h : g.InRange) (n : U16) : (g.retire n).InRange := by
  refine h.map_ring (fun e he => ?_) g.stamp
  unfold HistoryEntry.retire
  split
  · exact fun hw => by cases hw
  · exact he

theorem Demand.InRange.forget {g : Demand} (h : g.InRange) : g.forget.InRange :=
  h.map_ring (fun _ _ hw => by cases hw) none

theorem Demand.InRange.report {g : Demand} (h : g.InRange) (stamp : U16) (count c : Nat) :
    (g.report stamp (min count Config.maxBacklog) c).InRange := by
  refine ⟨?_, h.2⟩
  show min count Config.maxBacklog - c ≤ 1048575
  unfold Config.maxBacklog
  omega

theorem Demand.InRange.failed {g : Demand} (h : g.InRange) (f : U16) : (g.failed f).InRange := by
  refine h.set_ring (ringPos f) (fun hw => ?_) ?_
  · obtain ⟨h1, h48, -⟩ := h.2 (ringPos f) hw
    exact ⟨h1, h48, Nat.zero_le _⟩
  · have := h.1
    unfold Config.maxBacklog
    split <;> omega

theorem Demand.InRange.delivered {g : Demand} (h : g.InRange) (f : U16) : (g.delivered f).InRange :=
  h.set_ring (ringPos f) (h.2 (ringPos f)) h.1

/-- A grant of 1 to 48 tiles written (R49). -/
theorem Demand.InRange.writeGrant {g : Demand} (h : g.InRange) (n : U16) (kind : GrantKind)
    {tiles served : Nat} (h1 : 1 ≤ tiles) (h48 : tiles ≤ 48) (hs : served ≤ 12240) :
    (g.writeGrant n kind tiles served).InRange := by
  have := h.1
  exact h.set_ring (ringPos n) (fun _ => ⟨h1, h48, hs⟩) (by omega)

/-! #### Service groups (R80, R86, R102 to R104, R125) -/

/-- The credit rewritten within its range. -/
theorem Service.InRange.with_credit {v : Service} (h : v.InRange) {x : Int}
    (hx : -524280 ≤ x ∧ x ≤ 524280) : Service.InRange { v with credit := x } := by
  obtain ⟨ha, -, rest⟩ := h
  exact ⟨ha, hx, rest⟩

/-- The credit rule keeps the credit between −8g and 8g (R86). -/
theorem creditRule_bounds (kind : ClassKind) {g : Nat} (hg : g ≤ 65535) (backlog : Nat) (credit : Int) :
    -524280 ≤ creditRule kind g backlog credit ∧ creditRule kind g backlog credit ≤ 524280 := by
  unfold creditRule
  split
  · split <;> omega
  · omega
  · omega

/-- The credit after a grant is not below −8g, and not above what it was (R125). -/
theorem grantCredit_bounds (kind : ClassKind) {g : Nat} (hg : g ≤ 65535) {credit : Int} (served : Nat)
    (hc : -524280 ≤ credit ∧ credit ≤ 524280) :
    -524280 ≤ grantCredit kind g credit served ∧ grantCredit kind g credit served ≤ 524280 := by
  unfold grantCredit
  split <;> omega

theorem averaged_le (avg payload k : Nat) : averaged avg payload k ≤ 1048575 := Nat.min_le_left _ _

/-- The starve count stays below the limit that resets it (R103). -/
theorem starveAfter_le {count limit : Nat} (hc : count ≤ 255) (hl : limit ≤ 255)
    (grant : Option GrantView) (backlog : Nat) : starveAfter count grant backlog limit ≤ 255 := by
  unfold starveAfter
  split
  · omega
  · split
    · split <;> omega
    · exact hc

/-- The shortfall count stays below the limit that resets it (R104). -/
theorem shortfallAfter_le {limit : Nat} (hl : limit ≤ 255) (count : Nat) (short : Bool) :
    shortfallAfter count short limit ≤ 255 := by
  unfold shortfallAfter
  split
  · split <;> omega
  · omega

theorem Service.InRange.accounted {x : Service} (h : x.InRange) {p : PassSetup} (hp : p.valid = true)
    (prof : Profile) (v : SlotView) (k : Handle) (d : Direction) :
    (x.accounted p prof v k d).InRange := by
  obtain ⟨-, hc, hs, hf⟩ := h
  obtain ⟨hstarve, hshort⟩ := PassSetup.valid_bounds hp
  refine ⟨averaged_le _ _ _, hc, ?_, ?_⟩
  · show (if seenActive v k then _ else _) ≤ 255
    split
    · exact starveAfter_le hs hstarve _ _
    · exact hs
  · show (if seenActive v k then _ else _) ≤ 255
    split
    · exact shortfallAfter_le hshort _ _
    · exact hf

/-! #### Records (R2) -/

/-- What holds of the part written and of the part of the other direction holds of both. -/
theorem PerDir.forall_put {α : Type} {p : PerDir α} {d : Direction} {a : α} {P : α → Prop}
    (hp : ∀ e, P (p.get e)) (ha : P a) (e : Direction) : P ((p.put d a).get e) := by
  cases d <;> cases e
  · exact ha
  · exact hp .ul
  · exact hp .dl
  · exact ha

section
variable {u : Subscriber} (h : u.InRange)
include h

theorem Subscriber.InRange.track (d : Direction) : (u.tracks.get d).InRange := by
  obtain ⟨-, -, -, -, -, hg⟩ := h
  exact (hg d).1

theorem Subscriber.InRange.demand_get (d : Direction) : (u.demand.get d).InRange := by
  obtain ⟨-, -, -, -, -, hg⟩ := h
  exact (hg d).2.1

theorem Subscriber.InRange.service_get (d : Direction) : (u.service.get d).InRange := by
  obtain ⟨-, -, -, -, -, hg⟩ := h
  exact (hg d).2.2

/-- Both tracks rewritten within their ranges. -/
theorem Subscriber.InRange.with_tracks {g : PerDir Track} (hg : ∀ d, (g.get d).InRange) :
    Subscriber.InRange { u with tracks := g } := by
  obtain ⟨h1, h2, h3, h4, h5, h6⟩ := h
  exact ⟨h1, h2, h3, h4, h5, fun d => ⟨hg d, (h6 d).2⟩⟩

/-- Both demand groups rewritten within their ranges. -/
theorem Subscriber.InRange.with_demand {g : PerDir Demand} (hg : ∀ d, (g.get d).InRange) :
    Subscriber.InRange { u with demand := g } := by
  obtain ⟨h1, h2, h3, h4, h5, h6⟩ := h
  exact ⟨h1, h2, h3, h4, h5, fun d => ⟨(h6 d).1, hg d, (h6 d).2.2⟩⟩

/-- Both service groups rewritten within their ranges. -/
theorem Subscriber.InRange.with_service {g : PerDir Service} (hg : ∀ d, (g.get d).InRange) :
    Subscriber.InRange { u with service := g } := by
  obtain ⟨h1, h2, h3, h4, h5, h6⟩ := h
  exact ⟨h1, h2, h3, h4, h5, fun d => ⟨(h6 d).1, (h6 d).2.1, hg d⟩⟩

theorem Subscriber.InRange.putTrack (d : Direction) {t : Track} (ht : t.InRange) :
    (u.putTrack d t).InRange :=
  h.with_tracks (PerDir.forall_put h.track ht)

theorem Subscriber.InRange.putDemand (d : Direction) {g : Demand} (hg : g.InRange) :
    (u.putDemand d g).InRange :=
  h.with_demand (PerDir.forall_put h.demand_get hg)

theorem Subscriber.InRange.putService (d : Direction) {v : Service} (hv : v.InRange) :
    (u.putService d v).InRange :=
  h.with_service (PerDir.forall_put h.service_get hv)

theorem Subscriber.InRange.retire (n : U16) : (u.retire n).InRange :=
  h.with_demand fun d => by
    cases d
    · exact (h.demand_get .dl).retire n
    · exact (h.demand_get .ul).retire n

theorem Subscriber.InRange.forget : u.forget.InRange :=
  h.with_demand fun d => by
    cases d
    · exact (h.demand_get .dl).forget
    · exact (h.demand_get .ul).forget

/-- Neither the lifecycle state nor the alert set has a range to leave. -/
theorem Subscriber.InRange.with_life (x : Life) (w : BitVec 7) :
    Subscriber.InRange { u with life := x, alerts := w } := h

theorem Subscriber.InRange.resumed : u.resumed.InRange :=
  (h.with_life .active u.alerts).with_service fun d => by
    cases d
    · exact (h.service_get .dl).with_credit (by omega)
    · exact (h.service_get .ul).with_credit (by omega)

theorem Subscriber.InRange.recover (d : Direction) {c : TrackSetup} (hc : c.valid = true) :
    (u.recover d c).InRange := by
  unfold Subscriber.recover
  split
  · exact (h.putTrack d ((h.track d).with_settle (TrackSetup.valid_bounds hc).1)).with_life .active _
  · exact h

end

end Sys2Proof.Machine

/-! ### Every shared operation keeps the ranges -/

namespace Sys2Proof.Machine

/-- What `Obligations.RangesKept` says of the state after a step. -/
structure State.Ranges (s : State) : Prop where
  records : s.RecordInv
  tables : s.TablesInv
  energy : s.EnergyInv
  monitor : s.MonitorInv
  inbound : s.InboundInv

/-! #### Reading the tables -/

theorem State.Ranges.trackSetup_valid {s : State} (h : s.Ranges) : s.trackSetup.valid = true := by
  obtain ⟨-, -, hc, -⟩ := h.tables
  exact hc

theorem State.Ranges.setupCopy_valid {s : State} (h : s.Ranges) :
    s.ranker.setupCopy.valid = true := by
  obtain ⟨-, -, -, -, -, hp, -⟩ := h.tables
  exact hp

theorem State.Ranges.profileCopy_valid {s : State} (h : s.Ranges) (c : Fin 8) :
    (s.profileCopy c).valid = true := by
  obtain ⟨-, -, -, -, -, -, -, hp⟩ := h.tables
  exact hp c

/-- The record of a live handle is in range. -/
theorem State.Ranges.lookup {s : State} (h : s.Ranges) {k : Handle} {u : Subscriber}
    (hl : s.lookup k = some u) : u.InRange :=
  h.records _ _ (s.sub_of_lookup k u hl).1

/-! #### The slots -/

theorem State.Ranges.putSlot {s : State} (h : s.Ranges) (n : Nat) {x : Slot}
    (hx : ∀ u, x.sub = some u → u.InRange) : (s.putSlot n x).Ranges := by
  refine ⟨fun m u hu => ?_, h.tables, h.energy, h.monitor, h.inbound⟩
  rw [State.slot_putSlot] at hu
  split at hu
  · exact hx u hu
  · exact h.records m u hu

theorem State.Ranges.putSub {s : State} (h : s.Ranges) (n : Nat) {u : Subscriber} (hu : u.InRange) :
    (s.putSub n u).Ranges :=
  h.putSlot n fun v hv => by cases hv; exact hu

theorem State.Ranges.mapSubs {s : State} (h : s.Ranges) {f : Subscriber → Subscriber}
    (hf : ∀ u, u.InRange → (f u).InRange) : (s.mapSubs f).Ranges := by
  refine ⟨fun m u hu => ?_, h.tables, h.energy, h.monitor, h.inbound⟩
  rw [State.slot_mapSubs] at hu
  obtain ⟨v, hv, rfl⟩ := Option.map_eq_some_iff.mp hu
  exact hf v (h.records m v hv)

/-! #### The link, the arbiter and alerting -/

/-- The link is judged by the bytes it stores and by whether the part is held in reset. -/
theorem State.Ranges.with_link {s : State} (h : s.Ranges) {l : Link}
    (hr : l.resetHeld = false → s.link.resetHeld = false) (ho : l.occupied ≤ s.link.occupied) :
    State.Ranges { s with link := l } := by
  obtain ⟨hrecords, htrace, hpasses⟩ := h.monitor
  exact ⟨h.records, h.tables, h.energy, ⟨hrecords, htrace, hpasses ∘ hr⟩, ho.trans h.inbound⟩

/-- The notices are not among the ranges. -/
theorem State.Ranges.with_notices {s : State} (h : s.Ranges) (n : Notices) :
    State.Ranges { s with notices := n } :=
  ⟨h.records, h.tables, h.energy, h.monitor, h.inbound⟩

theorem State.Ranges.arbitrate {s : State} (h : s.Ranges) : s.arbitrate.Ranges :=
  ⟨h.records, h.tables, h.energy, h.monitor, h.inbound⟩

/-- A frame that leaves the inbound buffer frees its bytes (R168). -/
theorem Link.occupied_tail_le (l : Link) :
    Link.occupied { l with accepted := l.accepted.tail } ≤ l.occupied := by
  unfold Link.occupied
  cases l.accepted with
  | nil => exact le_rfl
  | cons f rest =>
    simp only [List.tail_cons, List.map_cons, List.sum_cons]
    omega

theorem State.Ranges.joinAnswer {s : State} (h : s.Ranges) (f : Frame) (r : Result) (d : AnswerData) :
    (s.joinAnswer f r d).Ranges := by
  have freed := (Link.occupied_tail_le s.link).trans h.inbound
  unfold State.joinAnswer
  dsimp only
  split
  · exact ⟨h.records, h.tables, h.energy, h.monitor, freed⟩
  · exact ⟨h.records, h.tables, h.energy, h.monitor, freed⟩

theorem State.Ranges.answerHead {s : State} (h : s.Ranges) (r : Result) : (s.answerHead r).Ranges := by
  unfold State.answerHead
  split
  · exact h.joinAnswer _ _ _
  · exact h

/-- Alerting keeps the stores of the Monitor Unit within their capacities and its pass count. -/
theorem State.Ranges.alerting {s t : State} (h : s.Ranges) (ho : s.OnlyAlerts t) : t.Ranges := by
  obtain ⟨al, more, mo, rfl, -, -, passes, -, -, records, trace⟩ := ho
  obtain ⟨hrecords, htrace, hpasses⟩ := h.monitor
  refine ⟨h.records, h.tables, h.energy, ⟨records hrecords, trace htrace, fun hr => ?_⟩, h.inbound⟩
  rw [passes]
  exact hpasses hr

theorem State.Ranges.latchMember {s : State} (h : s.Ranges) (n : Nat) (m : Member) :
    (s.latchMember n m).Ranges := by
  rcases State.latchMember_cases s n m with he | ⟨u, hu, ho⟩
  · rw [he]
    exact h
  · exact (h.putSub n ((h.records n u hu).with_life u.life _)).alerting ho

/-! #### The entries of a batch (chapters 2 and 3) -/

theorem State.Ranges.anchorRef {s : State} (h : s.Ranges) (u : Subscriber) (d : Direction) :
    ∀ a, s.anchorRef u d = some a → a ≤ 2032 := by
  intro a ha
  unfold State.anchorRef at ha
  obtain ⟨v, hv, rfl⟩ := Option.map_eq_some_iff.mp ha
  obtain ⟨k, -, hk⟩ := Option.bind_eq_some_iff.mp hv
  exact ((h.lookup hk).track d).1

theorem State.Ranges.takeSample {s : State} (h : s.Ranges) (k : Handle) {u : Subscriber}
    (hu : u.InRange) (d : Direction) (v : Nat) : (s.takeSample k u d v).state.Ranges := by
  have recovered := hu.recover d h.trackSetup_valid
  have sampled := (recovered.track d).takeSample h.trackSetup_valid (clampQuality_le v)
  exact h.putSub k.slot
    (recovered.putTrack d (sampled.recorded s.ranker.passIndex (h.anchorRef u d)))

theorem State.Ranges.qualityEntry (e : List Byte) {s : State} (h : s.Ranges) :
    (qualityEntry e s).state.Ranges := by
  unfold Machine.qualityEntry
  split
  · rename_i hu _
    exact h.takeSample _ (h.lookup hu) _ _
  · exact h

theorem State.Ranges.takeReport {s : State} (h : s.Ranges) (k : Handle) {u : Subscriber}
    (hu : u.InRange) (d : Direction) (stamp : U16) (count : Nat) :
    (s.takeReport k u d stamp count).state.Ranges := by
  unfold State.takeReport
  split
  · exact h.putSub k.slot (hu.putDemand d ((hu.demand_get d).report _ _ _))
  · exact h

theorem State.Ranges.queueEntry (e : List Byte) {s : State} (h : s.Ranges) :
    (queueEntry e s).state.Ranges := by
  unfold Machine.queueEntry
  split
  · rename_i hu _
    exact h.takeReport _ (h.lookup hu) _ _ _
  · exact h

theorem State.Ranges.takeOutcome {s : State} (h : s.Ranges) (k : Handle) {u : Subscriber}
    (hu : u.InRange) (d : Direction) (f : U16) (failed : Bool) :
    (s.takeOutcome k u d f failed).state.Ranges := by
  have failing := h.putSub k.slot
    ((hu.putDemand d ((hu.demand_get d).failed f)).putTrack d ((hu.track d).failed h.trackSetup_valid))
  have delivering := h.putSub k.slot
    ((hu.putDemand d ((hu.demand_get d).delivered f)).putTrack d
      ((hu.track d).delivered s.trackSetup))
  unfold State.takeOutcome
  split
  · exact h
  · split
    · unfold State.takeFailed
      dsimp only
      split
      · exact failing.latchMember _ _
      · exact failing
    · exact delivering

theorem State.Ranges.outcomeEntry (e : List Byte) {s : State} (h : s.Ranges) :
    (outcomeEntry e s).state.Ranges := by
  unfold Machine.outcomeEntry
  split
  · rename_i hu _ _
    exact h.takeOutcome _ (h.lookup hu) _ _ _
  · exact h

/-! #### Construction (R84 to R90) -/

theorem State.Ranges.applyCredit {s : State} (h : s.Ranges) {u : Subscriber} (hu : u.InRange) :
    (s.applyCredit u).InRange := by
  have hp := h.profileCopy_valid u.cls
  refine hu.with_service fun d => ?_
  cases d
  · exact (hu.service_get .dl).with_credit (creditRule_bounds _ (Profile.valid_rate hp .dl) _ _)
  · exact (hu.service_get .ul).with_credit (creditRule_bounds _ (Profile.valid_rate hp .ul) _ _)

/-- Neither the slot views nor the candidate lists are among the ranges. -/
theorem State.Ranges.with_views {s : State} (h : s.Ranges) (v : Vector SlotView 96)
    (l : PerDir (List Candidate)) (n : Nat) :
    State.Ranges { s with ranker := { s.ranker with views := v, lists := l, nextSlot := n } } :=
  ⟨h.records, h.tables, h.energy, h.monitor, h.inbound⟩

theorem State.Ranges.constructAt {s : State} (h : s.Ranges) (n : Nat) : (s.constructAt n).Ranges := by
  unfold State.constructAt
  split
  · exact h
  · rename_i u hu
    have inRange := h.records n u hu
    split
    · split
      · exact (((h.putSub n (inRange.with_life .lost u.alerts)).with_views _ _ _).latchMember n
          .lost).alerting (State.onlyAlerts_takeEvent _ _ _)
      · exact (h.putSub n (h.applyCredit inRange)).with_views _ _ _
    · exact h.with_views _ _ _
    · exact h.with_views _ _ _

/-! #### The pass allowance (R68 to R75) -/

/-- A budget of a table in range is a two-byte number (R63). -/
theorem EnergyTable.budget_le {t : EnergyTable} (h : t.valid = true) (k : Nat) :
    t.budget k ≤ 65535 := by
  simp only [EnergyTable.valid, Bool.and_eq_true, List.all_eq_true, decide_eq_true_eq] at h
  obtain ⟨⟨⟨⟨⟨-, hb⟩, -⟩, -⟩, -⟩, -⟩ := h
  unfold EnergyTable.budget
  cases hk : t.budgets[k - 1]? with
  | none => exact Nat.zero_le _
  | some b => exact hb b (Vector.mem_toList_iff.mpr (Vector.mem_of_getElem? hk))

/-- The share of a rise that `n` of `d` parts take is at most the rise. -/
theorem share_le (a : Nat) {n d : Nat} (h : n ≤ d) : a * n / d ≤ a :=
  Nat.div_le_of_le_mul (by rw [Nat.mul_comm d a]; exact Nat.mul_le_mul_left a h)

/-- A graded target lies between the budgets of its segment and the one above (R71). -/
theorem Energy.gradedTarget_le (e : Energy) :
    e.gradedTarget ≤ max (e.table.budget e.segment) (e.table.budget (e.segment - 1)) := by
  unfold Energy.gradedTarget
  dsimp only
  by_cases hb : e.table.bound e.segment ≤ e.table.bound (e.segment - 1)
  · have := share_le (e.table.budget (e.segment - 1) - e.table.budget e.segment)
      (n := max (e.table.bound e.segment) (min (e.reading.getD 0) (e.table.bound (e.segment - 1)))
        - e.table.bound e.segment)
      (d := e.table.bound (e.segment - 1) - e.table.bound e.segment) (by omega)
    omega
  · rw [Nat.sub_eq_zero_of_le (n := e.table.bound (e.segment - 1)) (by omega), Nat.div_zero]
    omega

theorem Energy.target_le {e : Energy} (h : e.table.valid = true) : e.target ≤ 65535 := by
  have := e.gradedTarget_le
  have := EnergyTable.budget_le h e.segment
  have := EnergyTable.budget_le h (e.segment - 1)
  unfold Energy.target
  split <;> omega

/-- The active budget never passes its target and where it stood (R72). -/
theorem Energy.moved_le (e : Energy) (t : Nat) : e.moved t ≤ max e.active t := by
  unfold Energy.moved
  split
  · split <;> omega
  · split
    · split <;> omega
    · omega

/-- The controller within its ranges, said of the controller alone. -/
def Energy.InRange (e : Energy) : Prop :=
  e.table.valid = true ∧ (1 ≤ e.segment ∧ e.segment ≤ 5) ∧ e.active ≤ 65535
    ∧ e.age ≤ Config.maxReadingAge ∧ ∀ x, e.reading = some x → x ≤ 255

theorem State.energyInv_iff (s : State) : s.EnergyInv ↔ s.energy.InRange := Iff.rfl

theorem Energy.InRange.judgeStale {e : Energy} (h : e.InRange) (timeout : Nat) :
    (e.judgeStale timeout).InRange := by
  obtain ⟨ht, hs, ha, hage, hr⟩ := h
  refine ⟨ht, ?_, ha, ?_, hr⟩
  · show 1 ≤ (if _ then 5 else e.segment) ∧ (if _ then 5 else e.segment) ≤ 5
    split
    · omega
    · exact hs
  · show e.agedBy1 ≤ Config.maxReadingAge
    unfold Energy.agedBy1
    split
    · rename_i hlt
      simp only [Bool.and_eq_true, decide_eq_true_eq] at hlt
      exact hlt.2
    · exact hage

theorem Energy.InRange.afterAllowance {e : Energy} (h : e.InRange) (timeout : Nat) :
    (e.afterAllowance timeout).InRange := by
  obtain ⟨ht, hs, ha, hage, hr⟩ := h.judgeStale timeout
  have := (e.judgeStale timeout).moved_le (e.judgeStale timeout).target
  have := Energy.target_le ht
  exact ⟨ht, hs, by show (e.judgeStale timeout).moved _ ≤ 65535; omega, hage, hr⟩

/-- Segment selection stays within the five segments (R65, R66). -/
theorem Energy.InRange.report {e : Energy} (h : e.InRange) {x : Nat} (hx : x ≤ 255) :
    (e.report x).InRange := by
  obtain ⟨ht, hs, ha, -, -⟩ := h
  have segmentOf (y : Nat) : 1 ≤ e.table.segmentOf y ∧ e.table.segmentOf y ≤ 5 := by
    have := List.countP_le_length (p := fun b => decide (b ≥ min y 255)) (l := e.table.bounds.toList)
    rw [Vector.length_toList] at this
    unfold EnergyTable.segmentOf
    omega
  refine ⟨ht, ?_, ha, Nat.zero_le _, fun y hy => by cases hy; exact hx⟩
  show 1 ≤ e.table.select e.segment x ∧ e.table.select e.segment x ≤ 5
  unfold EnergyTable.select
  split
  · exact segmentOf _
  · split
    · exact segmentOf _
    · exact hs

theorem State.Ranges.takeAllowance {s : State} (h : s.Ranges) (emergency : Bool) :
    (s.takeAllowance emergency).Ranges := by
  obtain ⟨h1, h2, h3, h4, h5, h6⟩ := h.tables
  refine State.Ranges.alerting ?_ (State.onlyAlerts_takeAllowance s emergency)
  exact ⟨h.records, ⟨h1, h2, h3, h4, h5, h6⟩,
    ((State.energyInv_iff s).mp h.energy).afterAllowance s.ranker.setupCopy.energyTimeout,
    h.monitor, h.inbound⟩

/-! #### The stages of a pass and PASSES (R83, R95, R101, R128, R145) -/

/-- The Placers start in the pass that was under construction, so PASSES stays one behind. -/
theorem State.Ranges.beginPlacement {s : State} (h : s.Ranges)
    (hs : s.ranker.stage = .constructing) : s.beginPlacement.Ranges := by
  have ordered : s.orderLists.Ranges := h.with_views _ _ _
  have taken := ordered.takeAllowance (s.orderLists.emergencyListed s.orderLists.ranker.lists.dl)
  have stage : (s.orderLists.takeAllowance
      (s.orderLists.emergencyListed s.orderLists.ranker.lists.dl)).ranker.stage = .constructing := by
    rw [(State.onlyAlerts_takeAllowance _ _).ranker]
    exact hs
  obtain ⟨hrecords, htrace, hpasses⟩ := taken.monitor
  refine ⟨taken.records, taken.tables, taken.energy, ⟨hrecords, htrace, fun hr => ?_⟩, taken.inbound⟩
  have := hpasses hr
  rw [stage] at this
  exact this

theorem State.beginPlacement_stage (s : State) : s.beginPlacement.ranker.stage = .placing := rfl

/-- A flush writes to the grant section and the assembler alone. -/
theorem State.Ranges.flush {s : State} (h : s.Ranges) (d : Direction) : (s.flush d).Ranges := by
  obtain ⟨more, rs, q, he, -⟩ := State.flush_shape s d
  rw [he]
  exact h.with_notices _

theorem State.flush_ranker (s : State) (d : Direction) : (s.flush d).ranker = s.ranker := by
  obtain ⟨more, rs, q, he, -⟩ := State.flush_shape s d
  rw [he]

theorem State.flush_placers (s : State) (d : Direction) : (s.flush d).placers = s.placers := by
  obtain ⟨more, rs, q, he, -⟩ := State.flush_shape s d
  rw [he]

theorem State.Ranges.latchMembers (n : Nat) (ms : List Member) {s : State} (h : s.Ranges) :
    (ms.foldl (fun s m => s.latchMember n m) s).Ranges := by
  induction ms generalizing s with
  | nil => exact h
  | cons m ms ih => exact ih (h.latchMember n m)

theorem State.Ranges.accountSlot {s : State} (h : s.Ranges) (n : Nat) : (s.accountSlot n).Ranges := by
  unfold State.accountSlot
  split
  · exact h
  · rename_i u hu
    have inRange := h.records n u hu
    split
    · refine State.Ranges.latchMembers n _ (h.putSub n (inRange.with_service fun d => ?_))
      cases d
      · exact (inRange.service_get .dl).accounted h.setupCopy_valid _ _ _ _
      · exact (inRange.service_get .ul).accounted h.setupCopy_valid _ _ _ _
    · exact h

theorem State.Ranges.account {s : State} (h : s.Ranges) : s.account.Ranges := by
  unfold State.account
  generalize List.range Config.slotCount = ns
  induction ns generalizing s with
  | nil => exact h
  | cons n ns ih => exact ih (h.accountSlot n)

theorem State.Ranges.latchDeadline {s : State} (h : s.Ranges) : s.latchDeadline.Ranges := by
  unfold State.latchDeadline
  split
  · exact h.alerting (State.onlyAlerts_latchDevice _ _ _)
  · exact h

/-- A pass counted as it ends: PASSES comes level with the pass index (R105, R145). -/
theorem State.Ranges.passCounted {s : State} (h : s.Ranges) (hs : s.ranker.stage ≠ .idle) (dl ul : Nat) :
    State.Ranges { s with ranker := s.ranker.finished, monitor := s.monitor.countPass dl ul } := by
  obtain ⟨hrecords, htrace, hpasses⟩ := h.monitor
  refine ⟨h.records, h.tables, h.energy, ⟨hrecords, htrace, fun hr => ?_⟩, h.inbound⟩
  have behind := hpasses hr
  rw [if_neg hs] at behind
  show s.ranker.passIndex = (s.monitor.passes + 1#32) + 0#32
  rw [behind, BitVec.add_zero]

theorem State.Ranges.complete {s : State} (h : s.Ranges) (hs : s.ranker.stage ≠ .idle) :
    s.complete.Ranges := by
  have accounted := h.account.latchDeadline
  have unchanged := (State.onlyTable_account s).trans (State.onlyTable_latchDeadline s.account)
  have queued : (s.account.latchDeadline.queueGrant (.mapEnd s.mapEnd) s.ranker.passIndex).Ranges :=
    accounted.with_notices _
  have counted := queued.passCounted (by rw [State.queueGrant_ranker, unchanged.ranker]; exact hs)
    s.placers.dl.tiles s.placers.ul.tiles
  exact (counted.alerting (State.onlyAlerts_takeEvents _ s.completionEvents)).arbitrate

theorem State.complete_ranker (s : State) : s.complete.ranker = s.ranker.finished := by
  obtain ⟨al, more, mo, sl, b, he, rfl, -⟩ := State.complete_footprint s
  rw [he]
  rfl

theorem State.complete_placers (s : State) : s.complete.placers = s.placers := by
  obtain ⟨al, more, mo, sl, b, he, rfl, -⟩ := State.complete_footprint s
  rw [he]
  rfl

/-- A pass starts with none in flight: the pass index advances, and PASSES falls one behind (R83, R145). -/
theorem State.Ranges.startPass {s : State} (h : s.Ranges) (hs : s.ranker.stage = .idle) (f : U16) :
    (s.startPass f).Ranges := by
  obtain ⟨h1, h2, h3, h4, h5, -, h7, -⟩ := h.tables
  obtain ⟨hrecords, htrace, hpasses⟩ := h.monitor
  have started : State.Ranges { s with ranker := s.ranker.started f s.profiles } := by
    refine ⟨h.records, ⟨h1, h2, h3, h4, h5, h5, h7, h7⟩, h.energy, ⟨hrecords, htrace, fun hr => ?_⟩,
      h.inbound⟩
    have := hpasses hr
    rw [hs] at this
    show s.ranker.passIndex + 1#32 = s.monitor.passes + 1#32
    rw [this]
    simp
  have retired := started.mapSubs (f := (·.retire f)) fun u hu => hu.retire f
  refine State.Ranges.alerting ?_
    (State.onlyAlerts_purge
      (State.mapSubs { s with ranker := s.ranker.started f s.profiles } (·.retire f)) _ f)
  exact retired.with_notices _

theorem State.Ranges.startMarkedPass {s : State} (h : s.Ranges) (hs : s.ranker.stage = .idle)
    (f : U16) : (s.startMarkedPass f).Ranges := by
  have answered := (h.startPass hs f).answerHead .ok
  rcases State.startMarkedPass_cases s f with he | ⟨b, ho, he⟩
  · rw [he]
    exact answered
  · rw [he]
    exact (answered.alerting ho).arbitrate

theorem State.Ranges.resolveDeferred {s : State} (h : s.Ranges) (hs : s.ranker.stage = .idle) :
    s.resolveDeferred.Ranges := by
  unfold State.resolveDeferred
  split
  · exact h.startMarkedPass hs _
  · exact (h.with_link (l := { s.link with device := .config }) id le_rfl).answerHead .ok
  · exact h
  · exact h

/-- A Placer ends in a pass in flight: its pass goes on, or completes and what waited is resolved. -/
theorem State.Ranges.endPlacer {s : State} (h : s.Ranges) (hs : s.ranker.stage ≠ .idle) (d : Direction)
    (why : EndReason) : (s.endPlacer d why).Ranges := by
  have ended : (s.putPlacer d { s.placers.get d with stage := .ended why }).Ranges :=
    ⟨h.records, h.tables, h.energy, h.monitor, h.inbound⟩
  have flushed := ended.flush d
  unfold State.endPlacer
  dsimp only
  split
  · refine (flushed.complete ?_).resolveDeferred ?_
    · rw [State.flush_ranker]
      exact hs
    · rw [State.complete_ranker]
      rfl
  · exact flushed.arbitrate

/-- The first Placer that a truncated construction ends leaves the pass in placement. -/
theorem State.beginPlacement_endPlacer_stage (s : State) (why : EndReason) :
    (s.beginPlacement.endPlacer .dl why).ranker.stage = .placing := by
  unfold State.endPlacer
  dsimp only
  rw [if_neg]
  · show (State.flush _ _).ranker.stage = .placing
    rw [State.flush_ranker]
    rfl
  · rw [State.flush_placers]
    exact Bool.false_ne_true

theorem State.Ranges.truncateConstruction {s : State} (h : s.Ranges)
    (hs : s.ranker.stage = .constructing) : s.truncateConstruction.Ranges := by
  have begun := h.beginPlacement hs
  refine (begun.endPlacer ?_ .dl .stopped).endPlacer ?_ .ul .stopped
  · rw [State.beginPlacement_stage]
    exact PassStage.noConfusion
  · rw [State.beginPlacement_endPlacer_stage]
    exact PassStage.noConfusion

/-- Neither the truncation cause nor the timer is among the ranges. -/
theorem State.Ranges.with_cause {s : State} (h : s.Ranges) (c : Option Cause) (t : TimerState) :
    State.Ranges { s with ranker := { s.ranker with cause := c, timer := t } } :=
  ⟨h.records, h.tables, h.energy, h.monitor, h.inbound⟩

theorem State.Ranges.truncate {s : State} (h : s.Ranges) (c : Cause) : (s.truncate c).Ranges := by
  cases hs : s.ranker.stage with
  | idle =>
    rw [State.truncate_idle s c hs]
    exact h
  | constructing =>
    rw [State.truncate_constructing s c hs]
    exact (h.with_cause _ _).truncateConstruction hs
  | placing =>
    rw [State.truncate_placing s c hs]
    exact h.with_cause _ _

theorem State.Ranges.deferUntilIdle {s : State} (h : s.Ranges) (waiting : Decoding) (c : Cause) :
    (s.deferUntilIdle waiting c).Ranges := by
  have deferred := h.with_link (l := { s.link with decoding := waiting }) id le_rfl
  unfold State.deferUntilIdle
  dsimp only
  split
  · exact deferred.resolveDeferred (by assumption)
  · exact deferred.truncate c
  · exact deferred.truncate c

end Sys2Proof.Machine

/-! ### Placement keeps the ranges (chapter 6) -/

namespace Sys2Proof.Machine

/-- A candidate in its ranges wants 1 to 48 tiles, on the uplink when its cap is not 0 (R114, R115). -/
theorem Candidate.InRange.want_bounds {c : Candidate} (h : c.InRange) (d : Direction)
    (hcap : d = .ul → c.ulCap ≠ 0) : 1 ≤ c.want d ∧ c.want d ≤ 48 := by
  obtain ⟨⟨hr, -⟩, ⟨hmax, h48⟩, hdata⟩ := h
  unfold Candidate.want
  split
  · omega
  · rename_i hk
    have : 1 ≤ ceilDiv c.backlog c.r := Nat.div_pos (by have := hdata hk; omega) hr
    omega
  · rename_i hk
    have : 1 ≤ ceilDiv c.backlog c.r := Nat.div_pos (by have := hdata hk; omega) hr
    have := hcap rfl
    omega

/-- A grant is of 1 to 48 tiles (R114 to R118). -/
theorem Candidate.InRange.tileCount_bounds {c : Candidate} (h : c.InRange) {d : Direction}
    {pool budget t : Nat} (ht : c.tileCount d pool budget = .grant t) (hpool : pool ≠ 0) :
    1 ≤ t ∧ t ≤ 48 := by
  unfold Candidate.tileCount Candidate.sliverRule at ht
  cases d with
  | dl =>
    have := h.want_bounds .dl Direction.noConfusion
    dsimp only at ht
    split at ht
    · cases ht
    · split at ht
      · cases ht
      · cases ht
        omega
  | ul =>
    dsimp only at ht
    split at ht
    · cases ht
    · rename_i hcap
      have := h.want_bounds .ul fun _ => hcap
      split at ht
      · cases ht
      · cases ht
        omega

/-- The payload of at most 48 tiles of at most 255 bytes each (R122). -/
theorem Candidate.InRange.payload_le {c : Candidate} (h : c.InRange) {t : Nat} (ht : t ≤ 48) :
    c.payload t ≤ 12240 := by
  obtain ⟨⟨-, hr⟩, -⟩ := h
  unfold Candidate.payload
  split
  · omega
  · calc min c.backlog (t * c.r) ≤ t * c.r := Nat.min_le_right _ _
      _ ≤ 48 * 255 := Nat.mul_le_mul ht hr

theorem State.Ranges.grantedRecord {s : State} (h : s.Ranges) {u : Subscriber} (hu : u.InRange)
    {c : Candidate} (hc : c.InRange) (d : Direction) {t : Nat} (ht : 1 ≤ t ∧ t ≤ 48) :
    (s.grantedRecord u c d t).InRange := by
  have ⟨_, credit, _⟩ := hu.service_get d
  have written := (hu.demand_get d).writeGrant s.passFrame c.kind ht.1 ht.2 (hc.payload_le ht.2)
  have charged := (hu.service_get d).with_credit
    (grantCredit_bounds (s.profileCopy c.cls).kind
      (Profile.valid_rate (h.profileCopy_valid c.cls) d) (c.payload t) credit)
  exact (hu.putDemand d written).putService d charged

/-- Neither the Placers nor what the DL Placer has left to spend is among the ranges. -/
theorem State.Ranges.with_placers {s : State} (h : s.Ranges) (p : PerDir Placer) (left spent : Nat) :
    State.Ranges { s with placers := p, dlBudget := left, dlSpent := spent } :=
  ⟨h.records, h.tables, h.energy, h.monitor, h.inbound⟩

theorem State.Ranges.spend {s : State} (h : s.Ranges) (d : Direction) (pq : Nat) :
    (s.spend d pq).Ranges := by
  cases d
  · exact h.with_placers _ _ _
  · exact h

theorem State.Ranges.handRecord {s : State} (h : s.Ranges) (d : Direction) (g : GrantRecord) :
    (s.handRecord d g).Ranges := by
  obtain ⟨more, rs, q, he, -⟩ := State.handRecord_shape s d g
  rw [he]
  exact h.with_notices _

theorem State.Ranges.skipCandidate {s : State} (h : s.Ranges) (d : Direction) (c : Candidate)
    (k : EventKind) (r : TraceResult) (tiles : Nat) : (s.skipCandidate d c k r tiles).Ranges :=
  (h.with_placers (s.placers.put d (s.placers.get d).skipped) s.dlBudget s.dlSpent).alerting
    (State.onlyAlerts_takeEvent _ _ _)

theorem State.Ranges.grantCandidate {s : State} (h : s.Ranges) {u : Subscriber} (hu : u.InRange)
    {c : Candidate} (hc : c.InRange) (d : Direction) {t : Nat} (ht : 1 ≤ t ∧ t ≤ 48) :
    (s.grantCandidate d c u t).Ranges := by
  have recorded := h.putSub c.handle.slot (h.grantedRecord hu hc d ht)
  have placed := State.Ranges.with_placers
    (recorded.with_views
      (s.ranker.views.setIfInBounds c.handle.slot
        ((s.view c.handle.slot).granted d t (c.payload t))) s.ranker.lists s.ranker.nextSlot)
    (s.placers.put d ((s.placers.get d).granted t (s.layoutFor d c t))) s.dlBudget s.dlSpent
  exact ((placed.spend d (t * c.dlCost)).handRecord d
    (s.grantRecord c d t (s.layoutFor d c t))).alerting (State.onlyAlerts_takeEvent _ _ _)

/-- A candidate that passes the live check is named by a live handle (R112). -/
theorem State.lookup_of_liveCandidate {s : State} {c : Candidate} {u : Subscriber}
    (h : s.liveCandidate c = some u) : s.lookup c.handle = some u := by
  unfold State.liveCandidate at h
  split at h
  · rename_i v hv
    split at h
    · cases h
      exact hv
    · cases h
  · cases h

theorem State.Ranges.placeCandidate {s : State} (h : s.Ranges) (hs : s.ranker.stage ≠ .idle)
    (d : Direction) {c : Candidate} (hc : c.InRange) : (s.placeCandidate d c).Ranges := by
  rcases State.placeCandidate_cases s d c with ⟨he, -⟩ | ⟨k, r, tiles, he⟩ | ⟨u, t, he, hu, ht, hp⟩
  · rw [he]
    exact h.endPlacer hs d _
  · rw [he]
    exact h.skipCandidate d c k r tiles
  · rw [he]
    exact h.grantCandidate (h.lookup (State.lookup_of_liveCandidate hu)) hc d
      (hc.tileCount_bounds ht hp)

/-! #### A Placer that has ended does not run on -/

theorem State.answerHead_placers (s : State) (r : Result) : (s.answerHead r).placers = s.placers := by
  unfold State.answerHead
  split
  · exact State.joinAnswer_placers _ _ _ _
  · rfl

theorem State.startMarkedPass_placers (s : State) (f : U16) :
    (s.startMarkedPass f).placers = s.placers := by
  have answered : ((s.startPass f).answerHead .ok).placers = s.placers :=
    (State.answerHead_placers _ _).trans (State.onlyTable_startPass s f).placers
  rcases State.startMarkedPass_cases s f with he | ⟨b, ho, he⟩
  · rw [he]
    exact answered
  · rw [he]
    exact ho.placers.trans answered

theorem State.resolveDeferred_placers (s : State) : s.resolveDeferred.placers = s.placers := by
  unfold State.resolveDeferred
  split
  · exact State.startMarkedPass_placers s _
  · exact State.answerHead_placers _ _
  · rfl
  · rfl

theorem State.endPlacer_stage (s : State) (d : Direction) (why : EndReason) :
    ((s.endPlacer d why).placers.get d).stage = .ended why := by
  have ended : ((s.placers.put d { s.placers.get d with stage := .ended why }).get d).stage
      = .ended why := by
    rw [PerDir.get_put_same]
  unfold State.endPlacer
  dsimp only
  split
  · rw [State.resolveDeferred_placers, State.complete_placers, State.flush_placers]
    exact ended
  · rw [State.arbitrate_placers, State.flush_placers]
    exact ended

/-- A Placer still RUNNING after a candidate leaves the pass in its stage. -/
theorem State.placeCandidate_ranker_stage (s : State) (d : Direction) (c : Candidate)
    (h : ((s.placeCandidate d c).placers.get d).stage = .running) :
    (s.placeCandidate d c).ranker.stage = s.ranker.stage := by
  rcases State.placeCandidate_cases s d c with ⟨he, -⟩ | ⟨k, r, tiles, he⟩ | ⟨u, t, he, -⟩
  · rw [he, State.endPlacer_stage] at h
    cases h
  · rw [he, (State.onlyTable_skipCandidate s d c k r tiles).ranker]
    rfl
  · obtain ⟨more, rs, q, ho, -⟩ := State.grantCandidate_footprint s d c u t
    rw [he, ho.ranker]
    cases d <;> rfl

/-- One check of R111 keeps the ranges, its candidate being in range. -/
theorem State.Ranges.placerStep {s : State} (h : s.Ranges) (hs : s.ranker.stage ≠ .idle)
    (d : Direction) (begun : Bool) (hc : ∀ c ∈ (s.placers.get d).list, c.InRange) :
    (s.placerStep d begun).Ranges := by
  unfold State.placerStep
  split
  · exact h.endPlacer hs d _
  · rename_i c _ hn
    exact (h.placeCandidate hs d (hc c (List.mem_of_getElem? hn))).arbitrate
  · exact h.endPlacer hs d _
  · rename_i c _ hn
    have placed := h.placeCandidate hs d (hc c (List.mem_of_getElem? hn))
    split
    · unfold State.stopAfter
      split
      · rename_i running
        refine placed.arbitrate.endPlacer ?_ d _
        rw [State.arbitrate_ranker, State.placeCandidate_ranker_stage s d c running]
        exact hs
      · exact placed.arbitrate
    · exact h.endPlacer hs d _

/-! ### The requests keep the ranges -/

/-! #### The Subscriber Table's requests (chapter 1) -/

/-- A track as admission builds it (R8). -/
theorem newTrack_inRange {s : State} (hc : s.trackSetup.valid = true) {q : Nat} (hq : q ≤ 127) :
    (newTrack s q).InRange := by
  have hf : q * 16 ≤ 2032 := by omega
  unfold Track.InRange newTrack
  dsimp only
  exact ⟨hf, hf, by decide, by decide, (TrackSetup.valid_bounds hc).1, by decide, by decide,
    fun a ha => by cases ha⟩

theorem newDemand_inRange : newDemand.InRange := by
  refine ⟨by decide, fun i hw => ?_⟩
  simp [newDemand, unwrittenEntry] at hw

theorem newService_inRange : newService.InRange := by
  unfold Service.InRange newService
  decide

/-- The record that an ADMIT builds is in range (R7, R8). -/
theorem newSubscriber_inRange {s : State} (hc : s.trackSetup.valid = true) {b : List Byte}
    {a : AdmitFields} (hok : AdmitOk b) (ha : AdmitReads b a) : (newSubscriber s a).InRange := by
  obtain ⟨-, hweight, -, hslot⟩ := hok
  refine ⟨?_, ?_, ?_, fun k hk => ?_, ?_, fun d => ⟨?_, ?_, ?_⟩⟩
  · have := ha.dlCost
    show 1 ≤ a.dlCost ∧ a.dlCost ≤ 4095
    omega
  · have := ha.ulCap
    show a.ulCap ≤ 48
    omega
  · have := ha.timing
    show a.timing ≤ 1000
    omega
  · change a.anchor = some k at hk
    rw [ha.anchor] at hk
    split at hk
    · rename_i hp
      cases hk
      exact hslot hp
    · cases hk
  · show a.anchorWeight ≤ 16
    rw [ha.anchorWeight]
    exact hweight
  · have hq := ha.quality
    cases d
    · exact newTrack_inRange hc (by rw [hq]; exact Nat.min_le_right _ _)
    · exact newTrack_inRange hc (by rw [hq]; exact Nat.min_le_right _ _)
  · cases d <;> exact newDemand_inRange
  · cases d <;> exact newService_inRange

theorem State.Ranges.admitBlock (b : List Byte) {s : State} (h : s.Ranges) :
    (admitBlock b s).state.Ranges := by
  unfold Machine.admitBlock
  split
  · exact h
  · rename_i a ha
    obtain ⟨hok, hreads⟩ := parseAdmit_reads ha
    split
    · split
      · exact h
      · exact h.putSlot _ fun u hu => by
          cases hu
          exact newSubscriber_inRange h.trackSetup_valid hok hreads
    · exact h

/-- A request that names a live handle acts on a record in range, or is refused. -/
theorem State.Ranges.withNamed {act : Handle → Subscriber → State → Reply}
    (hact : ∀ k u s, s.Ranges → u.InRange → (act k u s).state.Ranges) (b : List Byte) {s : State}
    (h : s.Ranges) : (withNamed act b s).state.Ranges := by
  unfold Machine.withNamed State.named
  split
  · rename_i u hu
    split at hu
    · split at hu
      · rename_i hl
        cases hu
        exact hact _ _ _ h (h.lookup hl)
      · cases hu
    · cases hu
  · exact h

theorem State.Ranges.releaseBlock (k : Handle) (u : Subscriber) (s : State) (h : s.Ranges)
    (_ : u.InRange) : (releaseBlock k u s).state.Ranges :=
  h.putSlot k.slot fun v hv => by cases hv

theorem State.Ranges.suspendBlock (k : Handle) (u : Subscriber) (s : State) (h : s.Ranges)
    (hu : u.InRange) : (suspendBlock k u s).state.Ranges := by
  unfold Machine.suspendBlock
  split
  · exact h
  · exact h.putSub k.slot (hu.with_life .suspended u.alerts)
  · exact h.putSub k.slot (hu.with_life .suspended u.alerts)

theorem State.Ranges.resumeBlock (k : Handle) (u : Subscriber) (s : State) (h : s.Ranges)
    (hu : u.InRange) : (resumeBlock k u s).state.Ranges := by
  unfold Machine.resumeBlock
  split
  · exact h.putSub k.slot hu.resumed
  · exact h
  · exact h

/-- A record with its anchor references dropped (R14). -/
theorem Subscriber.InRange.dropRefs {u : Subscriber} (h : u.InRange) : u.dropRefs.InRange := by
  have dropped (d : Direction) : Track.InRange { u.tracks.get d with aRef := none } := by
    obtain ⟨hf, hl, hd, hs, he, ho, hp, -⟩ := h.track d
    exact ⟨hf, hl, hd, hs, he, ho, hp, fun a ha => by cases ha⟩
  exact h.with_tracks fun d => by
    cases d
    · exact dropped .dl
    · exact dropped .ul

/-- The anchor rewritten with one whose slot exists. -/
theorem Subscriber.InRange.with_anchor {u : Subscriber} (h : u.InRange) {x : Option Handle}
    (hx : ∀ a, x = some a → a.slot ≤ 95) : Subscriber.InRange { u with anchor := x } := by
  obtain ⟨h1, h2, h3, -, h5, h6⟩ := h
  exact ⟨h1, h2, h3, hx, h5, h6⟩

/-- An optional field written over a value in its range leaves a value in its range. -/
theorem getD_of_forall {α : Type} {P : α → Prop} {x : Option α} {a : α} (hx : ∀ y, x = some y → P y)
    (ha : P a) : P (x.getD a) := by
  cases x with
  | none => exact ha
  | some y => exact hx y rfl

/-- A record that an accepted LINK_UPDATE has written is in range (R13, R14). -/
theorem Subscriber.InRange.applyLink {u : Subscriber} (h : u.InRange) {b : List Byte} {l : LinkFields}
    (hok : LinkOk b) (hl : LinkReads b l) : (u.applyLink l).InRange := by
  obtain ⟨-, -, hweight, haction⟩ := hok
  have anchored : (u.applyAnchor l.anchor).InRange := by
    rw [hl.anchor]
    split
    · rename_i hp
      split
      · rename_i h1
        refine h.dropRefs.with_anchor fun a ha => ?_
        cases ha
        rcases haction hp with ⟨-, hslot⟩ | h2
        · exact hslot
        · omega
      · exact h.dropRefs.with_anchor fun a ha => by cases ha
    · exact h
  obtain ⟨hcost, hcap, htiming, -, hw, -⟩ := h
  obtain ⟨-, -, -, hanchor, -, hgroups⟩ := anchored
  refine ⟨?_, ?_, ?_, hanchor, ?_, hgroups⟩
  · refine getD_of_forall (P := fun n => 1 ≤ n ∧ n ≤ 4095) (fun y hy => ?_) hcost
    rw [hl.dlCost] at hy
    split at hy
    · cases hy
      omega
    · cases hy
  · refine getD_of_forall (P := fun n => n ≤ 48) (fun y hy => ?_) hcap
    rw [hl.ulCap] at hy
    split at hy
    · cases hy
      omega
    · cases hy
  · refine getD_of_forall (P := fun n => n ≤ 1000) (fun y hy => ?_) htiming
    rw [hl.timing] at hy
    split at hy
    · cases hy
      omega
    · cases hy
  · refine getD_of_forall (P := fun n => n ≤ 16) (fun y hy => ?_) hw
    rw [hl.anchorWeight] at hy
    split at hy
    · rename_i hp
      cases hy
      exact hweight hp
    · cases hy

theorem State.Ranges.linkUpdateFields (b : List Byte) (k : Handle) (u : Subscriber) (s : State)
    (h : s.Ranges) (hu : u.InRange) : (linkUpdateFields b k u s).state.Ranges := by
  unfold Machine.linkUpdateFields
  split
  · exact h
  · rename_i l hl
    obtain ⟨hok, hreads⟩ := parseLink_reads hl
    have updated := h.putSub k.slot (hu.applyLink hok hreads)
    split
    · split
      · exact h
      · split
        · exact updated
        · exact h
    · exact updated
    · exact updated

theorem State.Ranges.classProfileBlock (b : List Byte) {s : State} (h : s.Ranges) :
    (classProfileBlock b s).state.Ranges := by
  unfold Machine.classProfileBlock
  split
  · exact h
  · rename_i c p hp
    obtain ⟨hok, -, rfl⟩ := parseProfile_eq_some_iff.mp hp
    obtain ⟨h1, h2, h3, h4, h5, h6, h7, h8⟩ := h.tables
    refine ⟨h.records, ⟨h1, h2, h3, h4, h5, h6, fun x => ?_, h8⟩, h.energy, h.monitor, h.inbound⟩
    show ((s.profiles.set c (profileOf b))[x]).valid = true
    rw [Fin.getElem_fin, Vector.getElem_set]
    split
    · exact profileOf_valid hok
    · exact h7 x

theorem State.Ranges.subscriberReadBlock (b : List Byte) {s : State} (h : s.Ranges) :
    (subscriberReadBlock b s).state.Ranges := by
  unfold Machine.subscriberReadBlock
  dsimp only
  split
  · exact h
  · split <;> exact h
  · split
    · split <;> exact h
    · exact h

/-! #### The tables and setups -/

theorem State.Ranges.rateTableBlock (b : List Byte) {s : State} (h : s.Ranges) :
    (rateTableBlock b s).state.Ranges := by
  unfold Machine.rateTableBlock parseRateTable
  split
  · exact h
  · rename_i t ht
    split at ht
    · rename_i hv
      cases ht
      obtain ⟨-, -, rest⟩ := h.tables
      refine ⟨h.records, ⟨hv, fun x hx => ?_, rest⟩, h.energy, h.monitor, h.inbound⟩
      change x ∈ (rateTableOf b).toList at hx
      rw [rateTableOf, Vector.toList_ofFn, List.mem_ofFn] at hx
      obtain ⟨i, rfl⟩ := hx
      exact num1_le _ _
    · cases ht

theorem State.Ranges.trackSetupBlock (b : List Byte) {s : State} (h : s.Ranges) :
    (trackSetupBlock b s).state.Ranges := by
  unfold Machine.trackSetupBlock parseTrackSetup
  split
  · exact h
  · rename_i c hc
    split at hc
    · rename_i hv
      cases hc
      obtain ⟨h1, h2, -, rest⟩ := h.tables
      exact ⟨h.records, ⟨h1, h2, hv, rest⟩, h.energy, h.monitor, h.inbound⟩
    · cases hc

theorem State.Ranges.passSetupBlock (b : List Byte) {s : State} (h : s.Ranges) :
    (passSetupBlock b s).state.Ranges := by
  unfold Machine.passSetupBlock parsePassSetup
  split
  · exact h
  · rename_i p hp
    split at hp
    · rename_i hv
      cases hp
      obtain ⟨h1, h2, h3, h4, -, rest⟩ := h.tables
      exact ⟨h.records, ⟨h1, h2, h3, h4, hv, rest⟩, h.energy, h.monitor, h.inbound⟩
    · cases hp

theorem parseEnergyTable_valid {b : List Byte} {t : EnergyTable} (h : parseEnergyTable b = some t) :
    t.valid = true := by
  unfold parseEnergyTable at h
  split at h
  · split at h
    · rename_i hv
      cases h
      exact hv
    · cases h
  · cases h

theorem State.Ranges.energyTableBlock (b : List Byte) {s : State} (h : s.Ranges) :
    (energyTableBlock b s).state.Ranges := by
  unfold Machine.energyTableBlock
  split
  · exact h
  · rename_i t ht
    have hv := parseEnergyTable_valid ht
    obtain ⟨h1, h2, h3, -, rest⟩ := h.tables
    obtain ⟨-, energy⟩ := h.energy
    exact ⟨h.records, ⟨h1, h2, h3, hv, rest⟩, ⟨hv, energy⟩, h.monitor, h.inbound⟩

theorem State.Ranges.energyReportBlock (b : List Byte) {s : State} (h : s.Ranges) :
    (energyReportBlock b s).state.Ranges :=
  ⟨h.records, h.tables, ((State.energyInv_iff s).mp h.energy).report (num1_le b 0), h.monitor,
    h.inbound⟩

/-! #### The Link Interface's and the Monitor Unit's requests -/

theorem State.Ranges.serviceOnBlock (b : List Byte) {s : State} (h : s.Ranges) :
    (serviceOnBlock b s).state.Ranges := by
  have forgotten := h.mapSubs fun u hu => hu.forget
  exact ⟨forgotten.records, forgotten.tables, forgotten.energy, forgotten.monitor, forgotten.inbound⟩

theorem State.Ranges.clearEverywhere {s : State} (h : s.Ranges) (bits : Nat) :
    (s.clearEverywhere bits).Ranges :=
  (h.mapSubs fun u hu => hu.with_life u.life _).with_link id le_rfl

theorem State.Ranges.clearNamed {s : State} (h : s.Ranges) (k : Handle) (bits : Nat) :
    (s.clearNamed k bits).state.Ranges := by
  unfold State.clearNamed
  split
  · exact h
  · split
    · exact h
    · rename_i u hu
      exact h.putSub k.slot ((h.lookup hu).with_life u.life _)

theorem State.Ranges.alertClearBlock (b : List Byte) {s : State} (h : s.Ranges) :
    (alertClearBlock b s).state.Ranges := by
  unfold Machine.alertClearBlock
  split
  · exact h
  · split
    · exact h
    · exact h.clearEverywhere _
    · exact h.clearNamed _ _

theorem State.Ranges.alertMaskBlock (b : List Byte) {s : State} (h : s.Ranges) :
    (alertMaskBlock b s).state.Ranges := by
  unfold Machine.alertMaskBlock
  split
  · exact h
  · exact h.with_link id le_rfl

/-- The Monitor Unit rewritten with its pass count kept and its stores within their capacities. -/
theorem State.Ranges.with_monitor {s : State} (h : s.Ranges) {m : MonitorUnit}
    (hp : m.passes = s.monitor.passes) (hr : m.records.length ≤ s.monitor.records.length)
    (ht : m.trace.length ≤ s.monitor.trace.length) : State.Ranges { s with monitor := m } := by
  obtain ⟨hrecords, htrace, hpasses⟩ := h.monitor
  refine ⟨h.records, h.tables, h.energy, ⟨hr.trans hrecords, ht.trans htrace, fun hl => ?_⟩, h.inbound⟩
  have := hpasses hl
  rwa [← hp] at this

theorem State.Ranges.monitorSetupBlock (b : List Byte) {s : State} (h : s.Ranges) :
    (monitorSetupBlock b s).state.Ranges := by
  unfold Machine.monitorSetupBlock
  split
  · exact h
  · exact h.with_monitor rfl le_rfl le_rfl

theorem State.Ranges.bufferSetupBlock (b : List Byte) {s : State} (h : s.Ranges) :
    (bufferSetupBlock b s).state.Ranges := by
  unfold Machine.bufferSetupBlock
  split
  · exact h
  · exact h.with_monitor rfl le_rfl le_rfl

theorem State.Ranges.counterReadBlock (b : List Byte) {s : State} (h : s.Ranges) :
    (counterReadBlock b s).state.Ranges := by
  unfold Machine.counterReadBlock
  split
  · exact h
  · dsimp only
    split
    · exact h.with_monitor rfl le_rfl le_rfl
    · exact h

theorem State.Ranges.captureReadBlock (b : List Byte) {s : State} (h : s.Ranges) :
    (captureReadBlock b s).state.Ranges := by
  unfold Machine.captureReadBlock
  dsimp only
  split
  · refine h.with_monitor rfl ?_ le_rfl
    rw [List.length_drop]
    exact Nat.sub_le _ _
  · exact h

theorem State.Ranges.traceResumeBlock (b : List Byte) {s : State} (h : s.Ranges) :
    (traceResumeBlock b s).state.Ranges :=
  h.with_monitor rfl le_rfl le_rfl

end Sys2Proof.Machine

/-! ### Reception and the device resets keep the ranges -/

namespace Sys2Proof.Machine

/-! #### Reception (R164 to R168) -/

/-- A receiver that stores no more than the one it replaces. -/
theorem State.Ranges.putRx {s : State} (h : s.Ranges) {r : Receiver}
    (hr : r.stored ≤ s.link.rx.stored) : (s.putRx r).Ranges :=
  h.with_link id (Nat.add_le_add_left hr _)

/-- A receiver that stores one byte more, for which the inbound buffer has room (R168). -/
theorem State.Ranges.putRx_byte {s : State} (h : s.Ranges) (room : s.hasRoom = true) {r : Receiver}
    (hr : r.stored ≤ s.link.rx.stored + 1) : (s.putRx r).Ranges := by
  refine ⟨h.records, h.tables, h.energy, h.monitor, ?_⟩
  have hroom : s.link.occupied < Config.inboundBytes := of_decide_eq_true room
  show (s.link.accepted.map Frame.stored).sum + r.stored ≤ Config.inboundBytes
  unfold Link.occupied at hroom
  omega

theorem State.Ranges.discardFrame {s : State} (h : s.Ranges) (a : DeviceAlert) :
    (s.discardFrame a).Ranges :=
  (h.putRx (r := .hunt) (Nat.zero_le _)).alerting (State.onlyAlerts_latchDevice _ _ _)

theorem State.Ranges.receiveHeader {s : State} (h : s.Ranges) (room : s.hasRoom = true)
    {got : List Byte} (hrx : s.link.rx = .header got) (b : Byte) : (s.receiveHeader got b).Ranges := by
  unfold State.receiveHeader
  split
  · split
    · exact h.discardFrame _
    · split
      · exact h.putRx_byte room (by rw [hrx]; exact le_rfl)
      · exact h.putRx_byte room (by rw [hrx]; exact le_rfl)
  · refine h.putRx_byte room ?_
    rw [hrx]
    simp [Receiver.stored]

theorem State.Ranges.receiveBody {s : State} (h : s.Ranges) (room : s.hasRoom = true)
    {kind tag : Byte} {len : Nat} {got : List Byte} (hrx : s.link.rx = .body kind tag len got)
    (b : Byte) : (s.receiveBody kind tag len got b).Ranges := by
  unfold State.receiveBody
  split
  all_goals
    refine h.putRx_byte room ?_
    rw [hrx]
    show 4 + (got ++ [b]).length ≤ 4 + got.length + 1
    rw [List.length_append]
    exact le_rfl

/-- An accepted frame stands in the bytes it was received into (R167). -/
theorem State.Ranges.acceptFrame {s : State} (h : s.Ranges) {kind tag : Byte} {got : List Byte}
    {hi : Option Byte} (hrx : s.link.rx = .check kind tag got hi) :
    (s.acceptFrame ⟨kind, tag, got⟩).Ranges := by
  refine h.with_link id ?_
  unfold Link.occupied
  rw [hrx]
  simp [Receiver.stored, Frame.stored]

theorem State.Ranges.receiveCrc {s : State} (h : s.Ranges) {kind tag : Byte} {got : List Byte}
    {hi : Option Byte} (hrx : s.link.rx = .check kind tag got hi) (b : Byte) :
    (s.receiveCrc kind tag got hi b).Ranges := by
  unfold State.receiveCrc
  split
  · exact h.putRx (by rw [hrx]; exact le_rfl)
  · split
    · exact h.acceptFrame hrx
    · exact h.discardFrame _

theorem State.Ranges.receive {s : State} (h : s.Ranges) (b : Byte) : (s.receive b).Ranges := by
  unfold State.receive
  split
  · split
    · exact h.putRx (Nat.zero_le _)
    · exact h
  · split
    · exact h.putRx (Nat.zero_le _)
    · split
      · exact h
      · exact h.putRx (Nat.zero_le _)
  · rename_i hrx
    split
    · rename_i room
      exact h.receiveHeader room hrx b
    · exact h.discardFrame _
  · rename_i hrx
    split
    · rename_i room
      exact h.receiveBody room hrx b
    · exact h.discardFrame _
  · rename_i hrx
    exact h.receiveCrc hrx b

/-! #### The device resets (R178, R179) -/

/-- The reset values lie within the ranges. -/
theorem State.resetBlocks_ranges (s : State) (b1 b0 : PinLevel) : (s.resetBlocks b1 b0).Ranges where
  records n u hu := by
    have free : ((s.resetBlocks b1 b0).slot n).sub = none := by
      unfold State.slot State.resetBlocks
      rw [Vector.getElem?_replicate]
      split <;> rfl
    rw [free] at hu
    cases hu
  tables := by
    have rates : rateTableValid resetRateTable = true ∧ ∀ x ∈ resetRateTable.toList, x.r ≤ 255 := by
      decide
    have track : resetTrackSetup.valid = true := by decide
    have energy : resetEnergyTable.valid = true := by decide
    have pass : resetPassSetup.valid = true := by decide
    refine ⟨rates.1, rates.2, track, energy, pass, pass, fun c => ?_, fun c => ?_⟩
    · show ((Vector.replicate 8 resetProfile)[c]).valid = true
      rw [Fin.getElem_fin, Vector.getElem_replicate]
      decide
    · show ((Vector.replicate 8 resetProfile)[c]).valid = true
      rw [Fin.getElem_fin, Vector.getElem_replicate]
      decide
  energy := by
    obtain ⟨htable, hsegment, hactive, hage⟩ : resetEnergyTable.valid = true
        ∧ (1 ≤ resetEnergy.segment ∧ resetEnergy.segment ≤ 5) ∧ resetEnergy.active ≤ 65535
        ∧ resetEnergy.age ≤ Config.maxReadingAge := by
      decide
    exact ⟨htable, hsegment, hactive, hage, fun x hx => by cases hx⟩
  monitor := ⟨Nat.zero_le _, Nat.zero_le _, fun _ => rfl⟩
  inbound := Nat.zero_le _

theorem State.deviceReset_ranges (s : State) (b1 b0 : PinLevel) : (s.deviceReset b1 b0).Ranges :=
  ((s.resetBlocks_ranges b1 b0).alerting (State.onlyAlerts_latchDevice _ _ _)).arbitrate

/-- While the part is held in reset its count of passes is not spoken of (log 13). -/
theorem State.Ranges.holdInReset {s : State} (h : s.Ranges) : s.holdInReset.Ranges := by
  obtain ⟨hrecords, htrace, -⟩ := h.monitor
  refine ⟨h.records, h.tables, h.energy, ⟨hrecords, htrace, fun hr => by cases hr⟩, ?_⟩
  exact le_trans (Nat.add_le_add_left (Nat.zero_le _) _) h.inbound

/-! ### Every command keeps the ranges -/

/-- The frames and the reception that an accepted RESTART discards free their bytes (R178). -/
theorem State.Ranges.awaitRestart {s : State} (h : s.Ranges) : s.awaitRestart.Ranges :=
  h.with_link id (Nat.zero_le _)

/-- A message that leaves the line takes no byte of the inbound buffer with it. -/
theorem State.Ranges.leaveLine {s : State} (h : s.Ranges) (t : Transmission) :
    (s.leaveLine t).Ranges := by
  have free := h.with_link (l := { s.link with tx := none }) id le_rfl
  unfold State.leaveLine
  dsimp only
  split
  · exact free.with_link id le_rfl
  · exact free.with_notices _
  · exact free.with_notices _

theorem State.Ranges.execConstructSlot {s : State} (h : s.Ranges) :
    LeadsTo (execConstructSlot s) State.Ranges := by
  unfold Machine.execConstructSlot
  split
  · rename_i hc
    have constructed := h.constructAt s.ranker.nextSlot
    have moved := constructed.with_views (s.constructAt s.ranker.nextSlot).ranker.views
      (s.constructAt s.ranker.nextSlot).ranker.lists (s.ranker.nextSlot + 1)
    have stage : (s.constructAt s.ranker.nextSlot).ranker.stage = .constructing := by
      obtain ⟨views, lists, ho⟩ := s.constructAt_footprint s.ranker.nextSlot
      rw [ho.ranker]
      exact hc.1
    refine .next ?_
    split
    · exact (moved.beginPlacement stage).arbitrate
    · exact moved.arbitrate
  · exact .next h

theorem State.Ranges.execPlaceCandidate {s : State} (h : s.Ranges) (hp : s.PlacementInv)
    (d : Direction) (begun : Bool) : LeadsTo (execPlaceCandidate d begun s) State.Ranges := by
  unfold Machine.execPlaceCandidate
  split
  · rename_i hc
    obtain ⟨-, -, hlists, -⟩ := hp
    exact .next (h.placerStep (by rw [hc.1]; exact PassStage.noConfusion) d begun (hlists d).2)
  · exact .next h

theorem State.Ranges.execDeadlineExpiry {s : State} (h : s.Ranges) :
    LeadsTo (execDeadlineExpiry s) State.Ranges := by
  unfold Machine.execDeadlineExpiry
  split
  · have expired := h.with_cause s.ranker.cause .expired
    refine .next ?_
    split
    · exact expired
    · exact expired.truncate _
  · exact .next h

/-- Every command keeps the ranges, the candidates of a Placer being in theirs. -/
theorem State.Ranges.exec {s : State} (h : s.Ranges) (hp : s.PlacementInv) (c : Instr) :
    LeadsTo (exec c s) State.Ranges := by
  have answering (s : State) (f : Frame) (r : Result) (d : AnswerData) (h : s.Ranges) :
      (s.joinAnswer f r d).Ranges := h.joinAnswer f r d
  have arbiter (s : State) (h : s.Ranges) : s.arbitrate.Ranges := h.arbitrate
  have events (es : List Event) (s : State) (h : s.Ranges) : (s.takeEvents es).Ranges :=
    h.alerting (State.onlyAlerts_takeEvents s es)
  have defer (s : State) (w : Decoding) (c : Cause) (h : s.Ranges) : (s.deferUntilIdle w c).Ranges :=
    h.deferUntilIdle w c
  have discard (s : State) (a : DeviceAlert) (h : s.Ranges) : (s.discardFrame a).Ranges :=
    h.discardFrame a
  have hunt (s : State) (h : s.Ranges) : (s.putRx .hunt).Ranges := h.putRx (Nat.zero_le _)
  have linked {s : State} {l : Link} (h : s.Ranges)
      (hr : l.resetHeld = s.link.resetHeld ∧ l.occupied = s.link.occupied) :
      State.Ranges { s with link := l } := h.with_link (hr.1 ▸ id) hr.2.le
  have request {block : List Byte → State → Reply}
      (hb : ∀ b s, State.Ranges s → (block b s).state.Ranges) (k : Request) (len : Nat)
      (rule : State → Option Result) : LeadsTo (s.runRequest k len rule block) State.Ranges :=
    State.runRequest_keeps h answering hb k len rule
  have batch {apply : List Byte → State → EntryTaken}
      (ha : ∀ e s, State.Ranges s → (apply e s).state.Ranges) (k : Request)
      (codesOk : List Byte → Bool) (n : Nat) :
      LeadsTo (s.runBatch k codesOk apply n) State.Ranges :=
    State.runBatch_keeps h answering arbiter events ha (fun _ _ h => linked h ⟨rfl, rfl⟩) k codesOk n
  cases c with
  | receiveByte b =>
    refine .next ?_
    split
    · exact (h.receive b).arbitrate
    · exact h
  | framingError =>
    exact execFramingError_keeps h discard hunt (fun _ h => linked h ⟨rfl, rfl⟩) arbiter
  | frameIdleTimeout => exact execFrameIdleTimeout_keeps h discard hunt arbiter
  | unknownKindRequest => exact execUnknownKindRequest_keeps h answering
  | status => exact request (fun _ _ h => h) _ _ _
  | restart => exact execRestart_keeps h answering fun _ h => h.awaitRestart
  | serviceOn => exact request (fun b _ h => h.serviceOnBlock b) _ _ _
  | serviceOff => exact execServiceOff_keeps h answering defer
  | alertClear => exact request (fun b _ h => h.alertClearBlock b) _ _ _
  | alertMask => exact request (fun b _ h => h.alertMaskBlock b) _ _ _
  | rateTable => exact request (fun b _ h => h.rateTableBlock b) _ _ _
  | trackSetup => exact request (fun b _ h => h.trackSetupBlock b) _ _ _
  | classProfile => exact request (fun b _ h => h.classProfileBlock b) _ _ _
  | energyTable => exact request (fun b _ h => h.energyTableBlock b) _ _ _
  | passSetup => exact request (fun b _ h => h.passSetupBlock b) _ _ _
  | admission => exact request (fun b _ h => h.admitBlock b) _ _ _
  | release => exact request (fun b _ h => h.withNamed State.Ranges.releaseBlock b) _ _ _
  | suspend => exact request (fun b _ h => h.withNamed State.Ranges.suspendBlock b) _ _ _
  | resume => exact request (fun b _ h => h.withNamed State.Ranges.resumeBlock b) _ _ _
  | linkUpdate =>
    exact request (fun b _ h => h.withNamed (State.Ranges.linkUpdateFields b) b) _ _ _
  | subscriberRead => exact request (fun b _ h => h.subscriberReadBlock b) _ _ _
  | frameMark => exact execFrameMark_keeps h answering defer
  | qualityBatch n => exact batch (fun e _ h => h.qualityEntry e) _ _ n
  | queueBatch n => exact batch (fun e _ h => h.queueEntry e) _ _ n
  | outcomeBatch n => exact batch (fun e _ h => h.outcomeEntry e) _ _ n
  | energyReport => exact request (fun b _ h => h.energyReportBlock b) _ _ _
  | monitorSetup => exact execMonitorSetup_keeps h answering fun b _ h => h.monitorSetupBlock b
  | monitorSetupBuffer =>
    exact execMonitorSetupBuffer_keeps h answering fun b _ h => h.bufferSetupBlock b
  | counterRead => exact request (fun b _ h => h.counterReadBlock b) _ _ _
  | captureRead => exact request (fun b _ h => h.captureReadBlock b) _ _ _
  | traceRead => exact request (fun _ _ h => h) _ _ _
  | traceResume => exact request (fun b _ h => h.traceResumeBlock b) _ _ _
  | messageSent =>
    exact execMessageSent_keeps h (fun _ t h => h.leaveLine t) (fun _ h => linked h ⟨rfl, rfl⟩) arbiter
  | powerOn b1 b0 =>
    refine .next ?_
    split
    · exact h
    · exact s.deviceReset_ranges b1 b0
  | resetLineAssert =>
    refine .next ?_
    split
    · exact h
    · exact h.holdInReset
  | resetLineRelease b1 b0 =>
    refine .next ?_
    split
    · exact s.deviceReset_ranges b1 b0
    · exact h
  | restartReset b1 b0 =>
    refine .next ?_
    split
    · exact s.deviceReset_ranges b1 b0
    · exact h
  | constructSlot => exact h.execConstructSlot
  | placeCandidate d begun => exact h.execPlaceCandidate hp d begun
  | deadlineExpiry => exact h.execDeadlineExpiry
  | lineReturnToIdle => exact .next (linked h ⟨rfl, rfl⟩)

/-- The queue of commands is not among the ranges. -/
theorem State.Ranges.step {s : State} (h : s.Ranges) (hp : s.PlacementInv) :
    LeadsTo (step s) State.Ranges := by
  unfold Machine.step
  split
  · exact .next h
  · rename_i c cs _
    exact State.Ranges.exec (s := s.withPending cs)
      ⟨h.records, h.tables, h.energy, h.monitor, h.inbound⟩ hp c

/-- Settles O59: every shared operation keeps the ranges, and so every command does. -/
theorem rangesKept : Obligations.RangesKept := by
  unfold Obligations.RangesKept
  intro s t hplacement hrecords htables henergy hmonitor hinbound ht
  have after := State.Ranges.step ⟨hrecords, htables, henergy, hmonitor, hinbound⟩ hplacement t ht
  exact ⟨after.records, after.tables, after.energy, after.monitor, after.inbound⟩

end Sys2Proof.Machine

/-! ### The Subscriber Table's requests: what each answers and writes (chapter 1) -/

namespace Sys2Proof.Machine

/-! #### Slots and named handles (R2, R3, R7) -/

/-- A request whose block writes one slot of the table answers with that slot written and every other one
as it stood. -/
theorem State.runRequest_writesSlot {s : State} {f : Frame} {c : Instr} {k : Request} {len : Nat}
    {block : List Byte → State → Reply} {n : Nat} {x : Slot} {r : Result} {d : AnswerData}
    (he : exec c s = s.runRequest k len anyState block) (h : s.TakesUp f) (hk : f.kind = k.code)
    (hl : f.body.length = len) (hb : block f.body s = ⟨s.putSlot n x, r, d⟩) (hn : n ≤ 95) :
    s.AnswersWith c f r d (s.putSlot n x)
      ∧ s.putSlot n x = { s with slots := (s.putSlot n x).slots }
      ∧ (s.putSlot n x).slot n = x
      ∧ ∀ m, m ≠ n → (s.putSlot n x).slot m = s.slot m := by
  refine ⟨State.runRequest_answers s f c k len anyState block _ r d he h hk hl rfl hb rfl rfl rfl,
    rfl, ?_, fun m hm => ?_⟩
  · rw [State.slot_putSlot, if_pos ⟨rfl, by omega⟩]
  · rw [State.slot_putSlot, if_neg fun hc => hm hc.1.symm]

/-- A live handle names a slot of the table. -/
theorem State.slot_le_of_lookup {s : State} {h : Handle} {u : Subscriber} (hl : s.lookup h = some u) :
    h.slot ≤ 95 := by
  have := s.slot_lt_of_sub h.slot u (s.sub_of_lookup h u hl).1
  omega

theorem State.named_of_above {s : State} {h : Handle} (hs : 95 < h.slot) :
    s.named h = .error .badField := by
  unfold State.named
  rw [if_neg fun he => Nat.not_le.mpr hs ((slotExists_iff _).mp he)]

theorem State.named_of_dead {s : State} {h : Handle} (hs : h.slot ≤ 95) (hl : s.lookup h = none) :
    s.named h = .error .unknownHandle := by
  unfold State.named
  rw [if_pos ((slotExists_iff _).mpr hs), hl]

theorem State.named_of_live {s : State} {h : Handle} {u : Subscriber} (hl : s.lookup h = some u) :
    s.named h = .ok u := by
  unfold State.named
  rw [if_pos ((slotExists_iff _).mpr (State.slot_le_of_lookup hl)), hl]

/-- A request that names a handle, judged by R3. -/
theorem withNamed_of_error {act : Handle → Subscriber → State → Reply} {b : List Byte} {s : State}
    {r : Result} (h : s.named (handleAtOffset b 0) = .error r) : withNamed act b s = s.refuse r := by
  unfold withNamed
  rw [h]

theorem withNamed_of_live {act : Handle → Subscriber → State → Reply} {b : List Byte} {s : State}
    {u : Subscriber} (h : s.lookup (handleAtOffset b 0) = some u) :
    withNamed act b s = act (handleAtOffset b 0) u s := by
  unfold withNamed
  rw [State.named_of_live h]

/-- A request that names a handle refuses a slot above 95 and a handle that is not live (R3). -/
theorem State.withNamed_refuses {s : State} {f : Frame} {c : Instr} {k : Request} {len : Nat}
    {act : Handle → Subscriber → State → Reply}
    (he : exec c s = s.runRequest k len anyState (withNamed act)) (h : s.TakesUp f)
    (hk : f.kind = k.code) (hl : f.body.length = len) :
    (95 < (handleAtOffset f.body 0).slot → s.Refuses c f .badField)
      ∧ ((handleAtOffset f.body 0).slot ≤ 95 → s.lookup (handleAtOffset f.body 0) = none →
          s.Refuses c f .unknownHandle) :=
  ⟨fun hs => State.runRequest_refuses s f c k len anyState _ _ he h hk hl rfl
      (withNamed_of_error (State.named_of_above hs)),
    fun hs hd => State.runRequest_refuses s f c k len anyState _ _ he h hk hl rfl
      (withNamed_of_error (State.named_of_dead hs hd))⟩

/-- The lowest FREE slot (R7). -/
theorem State.lowestFree_eq_some {s : State} {n : Nat} (hn : n < 96) (hfree : (s.slot n).sub = none)
    (hbelow : ∀ k < n, (s.slot k).sub ≠ none) : s.lowestFree = some n := by
  unfold State.lowestFree
  rw [List.find?_range_eq_some]
  refine ⟨by rw [hfree]; rfl, List.mem_range.mpr hn, fun k hk => ?_⟩
  simpa [Option.isSome_iff_ne_none] using hbelow k hk

theorem State.lowestFree_eq_none {s : State} (h : ∀ n < 96, (s.slot n).sub ≠ none) :
    s.lowestFree = none := by
  unfold State.lowestFree
  rw [List.find?_eq_none]
  intro n hn
  simpa using h n (List.mem_range.mp hn)

/-! #### CLASS_PROFILE -/

/-- The profile of a class read after one is replaced (R16, R17). -/
theorem State.profile_set (s : State) (c x : Fin 8) (p : Profile) :
    State.profile { s with profiles := s.profiles.set c p } x
      = if x.val = c.val then p else s.profile x := by
  unfold State.profile
  rw [Fin.getElem_fin, Vector.getElem_set]
  by_cases h : x.val = c.val
  · rw [if_pos h.symm, if_pos h]
  · rw [if_neg fun hc => h hc.symm, if_neg h]
    rfl

/-- Settles O23: the block replaces the profile a body reads as, and refuses a body that reads as none. -/
theorem classProfileReplaced : Obligations.ClassProfileReplaced := by
  unfold Obligations.ClassProfileReplaced
  intro s f ht hk hl v ok
  have he : exec .classProfile s = s.runRequest .classProfile 12 anyState classProfileBlock := rfl
  refine ⟨fun hok => ?_, fun hno => ?_⟩
  · obtain ⟨c, hc⟩ := exists_classOf hok.1
    have hcls := classOf_eq_some_iff.mp hc
    have hb : classProfileBlock f.body s
        = ⟨{ s with profiles := s.profiles.set c (profileOf f.body) }, .ok, .empty⟩ := by
      unfold classProfileBlock
      rw [parseProfile_eq_some_iff.mpr ⟨hok, hcls, rfl⟩]
      rfl
    refine ⟨_, State.runRequest_answers s f _ _ _ _ _ _ _ _ he ht hk hl rfl hb rfl rfl rfl, rfl,
      fun x => ?_⟩
    rw [State.profile_set, hcls]
    rfl
  · refine State.runRequest_refuses s f _ _ _ _ _ _ he ht hk hl rfl ?_
    unfold classProfileBlock
    rw [parseProfile_eq_none hno]

/-! #### ADMIT -/

/-- R6's second check, as the block makes it on the fields that the body reads as. -/
theorem AdmitReads.anchored_iff {b : List Byte} {a : AdmitFields} (ha : AdmitReads b a) (s : State) :
    (a.anchor.map s.isLive).getD true = true
      ↔ (num1 b 6 = 1 → s.isLive (handleAtOffset b 7) = true) := by
  rw [ha.anchor]
  split
  · rename_i h1
    simp [h1]
  · rename_i h1
    simp [h1]

/-- The tracks of a new record, from the quality that the body reads as (R8). -/
theorem AdmitReads.tracks {b : List Byte} {a : AdmitFields} (ha : AdmitReads b a) (s : State) :
    (newSubscriber s a).tracks
      = ⟨newTrack s (min (num1 b 10) 127), newTrack s (min (num1 b 11) 127)⟩ := by
  show (⟨newTrack s a.quality.dl, newTrack s a.quality.ul⟩ : PerDir Track) = _
  rw [ha.quality]

/-- Settles O24: the block's three refusals in the order of R6, and the record it builds. -/
theorem admitBuildsRecord : Obligations.AdmitBuildsRecord := by
  unfold Obligations.AdmitBuildsRecord
  intro s f ht hk hl v anchor ok anchored track service
  have he : exec .admission s = s.runRequest .admission 12 anyState admitBlock := rfl
  have refuses {r : Result} (hb : admitBlock f.body s = s.refuse r) : s.Refuses .admission f r :=
    State.runRequest_refuses s f _ _ _ _ _ _ he ht hk hl rfl hb
  refine ⟨fun hno => refuses ?_, fun hok hdead => refuses ?_, fun hok hlive hfull => refuses ?_,
    fun hok hlive n hn hfree hbelow => ?_⟩
  · unfold admitBlock
    rw [parseAdmit_eq_none hno]
  · obtain ⟨a, ha⟩ := exists_parseAdmit hok
    have reads := (parseAdmit_reads ha).2
    unfold admitBlock
    rw [ha]
    dsimp only
    rw [if_neg fun hc => hdead ((reads.anchored_iff s).mp hc)]
  · obtain ⟨a, ha⟩ := exists_parseAdmit hok
    have reads := (parseAdmit_reads ha).2
    unfold admitBlock
    rw [ha]
    dsimp only
    rw [if_pos ((reads.anchored_iff s).mpr hlive), State.lowestFree_eq_none hfull]
  · obtain ⟨a, ha⟩ := exists_parseAdmit hok
    have reads := (parseAdmit_reads ha).2
    have hb : admitBlock f.body s
        = ⟨s.putSlot n ⟨(s.slot n).gen + 1#8, some (newSubscriber s a)⟩, .ok,
            .admitted ⟨n, (s.slot n).gen + 1#8⟩⟩ := by
      unfold admitBlock
      rw [ha]
      dsimp only
      rw [if_pos ((reads.anchored_iff s).mpr hlive), State.lowestFree_eq_some hn hfree hbelow]
      rfl
    obtain ⟨answered, frame, written, others⟩ :=
      State.runRequest_writesSlot he ht hk hl hb (by omega)
    refine ⟨_, newSubscriber s a, answered, frame, written, others, rfl, reads.cls, reads.dlCost,
      reads.ulCap, reads.timing, reads.anchor, reads.anchorWeight, rfl, rfl, reads.tracks s, ⟨rfl, rfl⟩,
      ⟨rfl, rfl⟩, fun i => ?_, rfl⟩
    have unwritten : newDemand.ring[i].written = false := by
      simp [newDemand, unwrittenEntry]
    exact ⟨unwritten, unwritten⟩

/-! #### RELEASE, SUSPEND and RESUME -/

/-- Settles O25: the three requests name a handle by R3, and each writes the slot of a live one or refuses
its lifecycle state. -/
theorem lifecycleRequests : Obligations.LifecycleRequests := by
  unfold Obligations.LifecycleRequests
  intro s f ht hl h becomes
  have release : exec .release s = s.runRequest .release 2 anyState (withNamed releaseBlock) := rfl
  have suspend : exec .suspend s = s.runRequest .suspend 2 anyState (withNamed suspendBlock) := rfl
  have resume : exec .resume s = s.runRequest .resume 2 anyState (withNamed resumeBlock) := rfl
  refine ⟨fun p hp hk => ?_, fun u hu => ?_⟩
  · simp only [List.mem_cons, List.not_mem_nil, or_false] at hp
    rcases hp with rfl | rfl | rfl
    · exact State.withNamed_refuses release ht hk hl
    · exact State.withNamed_refuses suspend ht hk hl
    · exact State.withNamed_refuses resume ht hk hl
  · have hslot : h.slot ≤ 95 := State.slot_le_of_lookup hu
    have writes {c : Instr} {k : Request} {act : Handle → Subscriber → State → Reply}
        {x : Option Subscriber} (he : exec c s = s.runRequest k 2 anyState (withNamed act))
        (hk : f.kind = k.code)
        (hact : act h u s = ⟨s.putSlot h.slot { s.slot h.slot with sub := x }, .ok, .empty⟩) :
        becomes c x :=
      ⟨_, State.runRequest_writesSlot he ht hk hl ((withNamed_of_live hu).trans hact) hslot⟩
    have refuses {c : Instr} {k : Request} {act : Handle → Subscriber → State → Reply}
        (he : exec c s = s.runRequest k 2 anyState (withNamed act)) (hk : f.kind = k.code)
        (hact : act h u s = s.refuse .wrongState) : s.Refuses c f .wrongState :=
      State.runRequest_refuses s f c k 2 anyState _ _ he ht hk hl rfl
        ((withNamed_of_live hu).trans hact)
    refine ⟨fun hk => writes release hk rfl, fun hk => ⟨fun hlife => ?_, fun hlife => ?_⟩,
      fun hk => ⟨fun hlife => ?_, fun hlife => ?_⟩⟩
    · exact refuses suspend hk (by unfold suspendBlock; rw [hlife])
    · refine writes suspend hk ?_
      unfold suspendBlock
      cases hc : u.life with
      | suspended => exact absurd hc hlife
      | active => rfl
      | lost => rfl
    · refine refuses resume hk ?_
      unfold resumeBlock
      cases hc : u.life with
      | suspended => exact absurd hc hlife
      | active => rfl
      | lost => rfl
    · exact writes resume hk (by unfold resumeBlock; rw [hlife]; rfl)

/-! #### LINK_UPDATE -/

/-- Whether an accepted body sets the anchor, and to what. -/
theorem LinkReads.anchor_eq_set {b : List Byte} {l : LinkFields} (hl : LinkReads b l)
    (h4 : (num1 b 2).testBit 4 = true) (h9 : num1 b 9 = 1) :
    l.anchor = .set (handleAtOffset b 10) := by
  rw [hl.anchor, if_pos h4, if_pos h9]

/-- A body that does not set the anchor leaves the block nothing more to check (R13). -/
theorem LinkReads.anchor_of_not_set {b : List Byte} {l : LinkFields} (hl : LinkReads b l)
    (h : ¬((num1 b 2).testBit 4 = true ∧ num1 b 9 = 1)) : l.anchor = .keep ∨ l.anchor = .clear := by
  rw [hl.anchor]
  split
  · rename_i h4
    exact .inr (if_neg fun h9 => h ⟨h4, h9⟩)
  · exact .inl rfl

/-- The record that an accepted LINK_UPDATE writes, field by field (R13, R14). -/
theorem Subscriber.applyLink_eq (u : Subscriber) {b : List Byte} {l : LinkFields} (hl : LinkReads b l) :
    u.applyLink l
      = { u with
          cls := (u.applyLink l).cls
          dlCost :=
            if (num1 b 2).testBit 1 = true then max 1 (min (num2 b 4) 4095) else u.dlCost
          ulCap := if (num1 b 2).testBit 2 = true then min (num1 b 6) 48 else u.ulCap
          timing := if (num1 b 2).testBit 3 = true then min (num2 b 7) 1000 else u.timing
          anchor :=
            if (num1 b 2).testBit 4 = true then
              (if num1 b 9 = 1 then some (handleAtOffset b 10) else none)
            else u.anchor
          anchorWeight := if (num1 b 2).testBit 5 = true then num1 b 12 else u.anchorWeight
          tracks :=
            ⟨if (num1 b 2).testBit 4 = true then { u.tracks.dl with aRef := none } else u.tracks.dl,
              if (num1 b 2).testBit 4 = true then { u.tracks.ul with aRef := none }
              else u.tracks.ul⟩ } := by
  have field {α : Type} (present : Bool) (x y : α) :
      (if present then some x else none).getD y = if present then x else y := by
    cases present <;> rfl
  unfold Subscriber.applyLink
  rw [hl.dlCost, hl.ulCap, hl.timing, hl.anchorWeight, hl.anchor]
  simp only [field]
  split
  · split <;> rfl
  · rfl

theorem Subscriber.applyLink_cls (u : Subscriber) {b : List Byte} {l : LinkFields}
    (hl : LinkReads b l) :
    (u.applyLink l).cls.val = if (num1 b 2).testBit 0 = true then num1 b 3 else u.cls.val := by
  have := hl.cls
  show (l.cls.getD u.cls).val = _
  cases hc : l.cls with
  | none =>
    rw [hc] at this
    split at this
    · cases this
    · rename_i h0
      rw [if_neg h0]
      rfl
  | some c =>
    rw [hc] at this
    split at this
    · rename_i h0
      rw [if_pos h0]
      exact Option.some.inj this
    · cases this

/-- Settles O26: R13's checks in their order, and the record `Subscriber.applyLink_eq` gives. -/
theorem linkUpdateWritesPresentFields : Obligations.LinkUpdateWritesPresentFields := by
  unfold Obligations.LinkUpdateWritesPresentFields
  intro s f ht hk hl v h anchor has sets ok drop
  have he : exec .linkUpdate s
      = s.runRequest .linkUpdate 13 anyState (withNamed (linkUpdateFields f.body)) := by
    show s.runRequest _ _ _ _ = _
    rw [State.runRequest_eq s f .linkUpdate 13 anyState linkUpdateBlock ht hk,
      State.runRequest_eq s f .linkUpdate 13 anyState _ ht hk,
      State.decodeFrame_eq s f _ _ _ hl rfl, State.decodeFrame_eq s f _ _ _ hl rfl]
    rfl
  obtain ⟨above, dead⟩ := State.withNamed_refuses he ht hk hl
  refine ⟨above, dead, fun u hu => ?_⟩
  have hslot : h.slot ≤ 95 := State.slot_le_of_lookup hu
  have refuses {r : Result} (hact : linkUpdateFields f.body h u s = s.refuse r) :
      s.Refuses .linkUpdate f r :=
    State.runRequest_refuses s f _ _ _ _ _ _ he ht hk hl rfl ((withNamed_of_live hu).trans hact)
  refine ⟨fun hno => refuses ?_, fun hok hset hself => refuses ?_,
    fun hok hset hself hdead => refuses ?_, fun hok hset => ?_⟩
  · unfold linkUpdateFields
    rw [parseLink_eq_none hno]
  · obtain ⟨l, hp⟩ := exists_parseLink hok
    unfold linkUpdateFields
    rw [hp]
    dsimp only
    rw [(parseLink_reads hp).2.anchor_eq_set hset.1 hset.2]
    dsimp only
    rw [if_pos hself]
  · obtain ⟨l, hp⟩ := exists_parseLink hok
    unfold linkUpdateFields
    rw [hp]
    dsimp only
    rw [(parseLink_reads hp).2.anchor_eq_set hset.1 hset.2]
    dsimp only
    rw [if_neg hself, if_neg (by rw [hdead]; exact Bool.false_ne_true)]
  · obtain ⟨l, hp⟩ := exists_parseLink hok
    have reads := (parseLink_reads hp).2
    have hact : linkUpdateFields f.body h u s
        = ⟨s.putSlot h.slot { s.slot h.slot with sub := some (u.applyLink l) }, .ok, .empty⟩ := by
      unfold linkUpdateFields
      rw [hp]
      dsimp only
      by_cases hs : sets
      · obtain ⟨hother, hlive⟩ := hset hs
        rw [reads.anchor_eq_set hs.1 hs.2]
        dsimp only
        rw [if_neg hother, if_pos hlive]
        rfl
      · rcases reads.anchor_of_not_set hs with hx | hx
        · rw [hx]
          rfl
        · rw [hx]
          rfl
    obtain ⟨answered, frame, written, others⟩ :=
      State.runRequest_writesSlot he ht hk hl ((withNamed_of_live hu).trans hact) hslot
    exact ⟨_, u.applyLink l, answered, frame, written, others, u.applyLink_eq reads,
      u.applyLink_cls reads⟩

/-! #### SUBSCRIBER_READ -/

/-- Settles O27: the two forms, and what the record of an occupied slot is read as. -/
theorem subscriberReadReturnsRecord : Obligations.SubscriberReadReturnsRecord := by
  unfold Obligations.SubscriberReadReturnsRecord
  intro s f ht hk hl h form record
  have he : exec .subscriberRead s
      = s.runRequest .subscriberRead 3 anyState subscriberReadBlock := rfl
  have answers {d : AnswerData} (hb : subscriberReadBlock f.body s = ⟨s, .ok, d⟩) :
      s.AnswersWith .subscriberRead f .ok d s :=
    State.runRequest_answers s f _ _ _ _ _ _ _ _ he ht hk hl rfl hb rfl rfl rfl
  have refuses {r : Result} (hb : subscriberReadBlock f.body s = s.refuse r) :
      s.Refuses .subscriberRead f r :=
    State.runRequest_refuses s f _ _ _ _ _ _ he ht hk hl rfl hb
  have reads {g : Handle} {u : Subscriber}
      (hb : subscriberReadBlock f.body s = ⟨s, .ok, .record (s.readRecord g u)⟩) : record g u := by
    refine ⟨_, answers hb, rfl, rfl, ?_, fun d => ?_⟩
    · show (u.anchor.map s.isLive).getD false = true ↔ _
      cases u.anchor <;> simp
    · cases d <;> exact ⟨rfl, rfl, rfl⟩
  refine ⟨fun hbad => refuses ?_, fun hform hs hdead => refuses ?_, fun hform u hu => reads ?_,
    fun hform hs => ⟨fun hfree => answers ?_, fun u hu => reads ?_⟩⟩
  · unfold subscriberReadBlock
    dsimp only
    by_cases hf : 1 < form
    · rw [flagOf_eq_none_iff.mpr hf]
    · have above : 95 < h.slot := hbad.resolve_left hf
      rcases (show form = 0 ∨ form = 1 by omega) with h0 | h1
      · rw [flagOf_eq_false_iff.mpr h0]
        dsimp only
        rw [State.named_of_above above]
      · rw [flagOf_eq_true_iff.mpr h1]
        dsimp only
        rw [if_neg fun hx => Nat.not_le.mpr above ((slotExists_iff _).mp hx)]
  · unfold subscriberReadBlock
    dsimp only
    rw [flagOf_eq_false_iff.mpr hform]
    dsimp only
    rw [State.named_of_dead hs hdead]
  · unfold subscriberReadBlock
    dsimp only
    rw [flagOf_eq_false_iff.mpr hform]
    dsimp only
    rw [State.named_of_live hu]
  · unfold subscriberReadBlock
    dsimp only
    rw [flagOf_eq_true_iff.mpr hform]
    dsimp only
    rw [if_pos ((slotExists_iff _).mpr hs), hfree]
  · unfold subscriberReadBlock
    dsimp only
    rw [flagOf_eq_true_iff.mpr hform]
    dsimp only
    rw [if_pos ((slotExists_iff _).mpr hs), hu]
    rfl

end Sys2Proof.Machine

/-! ### Latching an alert: the set, the notice and the frame (R18, R142, R181) -/

namespace Sys2Proof.Machine

/-- Reading a set after one bit is added. -/
theorem getLsbD_addBit {n : Nat} (w : BitVec n) (i : Nat) {j : Nat} (hj : j < n) :
    (addBit w i).getLsbD j = (w.getLsbD j || i == j) := by
  unfold addBit
  rw [BitVec.getLsbD_or, BitVec.getLsbD_ofNat, Nat.testBit_two_pow, decide_eq_true hj, Bool.true_and]
  rfl

/-- The bit of a member is its place among the seven. -/
theorem Member.all_bit (m : Member) : Member.all[m.bit]? = some m := by
  cases m with
  | lost => rfl
  | linkPoor d => cases d <;> rfl
  | starved d => cases d <;> rfl
  | shortfall d => cases d <;> rfl

theorem Member.bit_lt (m : Member) : m.bit < 7 := by
  obtain ⟨h, -⟩ := List.getElem?_eq_some_iff.mp m.all_bit
  exact h

theorem Member.bit_inj {m k : Member} : m.bit = k.bit ↔ m = k :=
  ⟨fun h => Option.some.inj (by rw [← m.all_bit, ← k.all_bit, h]), fun h => by rw [h]⟩

/-- The code of a device alert is its place among the ten. -/
theorem DeviceAlert.all_code (a : DeviceAlert) : DeviceAlert.all[a.code]? = some a := by
  cases a <;> rfl

theorem DeviceAlert.code_lt (a : DeviceAlert) : a.code < 10 := by
  obtain ⟨h, -⟩ := List.getElem?_eq_some_iff.mp a.all_code
  exact h

theorem DeviceAlert.code_inj {a k : DeviceAlert} : a.code = k.code ↔ a = k :=
  ⟨fun h => Option.some.inj (by rw [← a.all_code, ← k.all_code, h]), fun h => by rw [h]⟩

/-- A record's alert set after a member joins it (R18). -/
theorem Subscriber.hasMember_addBit (u : Subscriber) (m k : Member) :
    Subscriber.hasMember { u with alerts := addBit u.alerts m.bit } k = (u.hasMember k || k == m) := by
  unfold Subscriber.hasMember
  rw [getLsbD_addBit _ _ k.bit_lt]
  congr 1
  rw [Bool.eq_iff_iff, beq_iff_eq, beq_iff_eq, Member.bit_inj, eq_comm]

/-- The device alert set after a kind joins it (R181). -/
theorem State.hasAlert_setAlert (s : State) (a k : DeviceAlert) :
    (s.setAlert a).hasAlert k = (s.hasAlert k || k == a) := by
  unfold State.hasAlert
  rw [State.setAlert_link, getLsbD_addBit _ _ k.code_lt]
  congr 1
  rw [Bool.eq_iff_iff, beq_iff_eq, beq_iff_eq, DeviceAlert.code_inj, eq_comm]

/-- A notice that the general section has room for joins its tail (R142). -/
theorem State.offerGeneral_of_room {s : State} (h : s.notices.general.length < 24) (n : GeneralNotice) :
    s.offerGeneral n
      = { s with notices := { s.notices with general := s.notices.general ++ [⟨n, .waiting⟩] } } :=
  if_pos h

/-- A notice that meets a full general section is dropped, and NOTICE_LOST is latched (R142). -/
theorem State.offerGeneral_of_full {s : State} (h : 24 ≤ s.notices.general.length)
    (n : GeneralNotice) : s.offerGeneral n = s.setAlert .noticeLost :=
  if_neg (Nat.not_lt.mpr h)

/-- The notice of a member latched in slot `n` (R181). -/
def State.memberNotice (s : State) (n : Nat) (m : Member) : GeneralNotice :=
  .alert { kind := m.kind, handle := some (s.handleAt n), dir := m.dir, frame := s.ranker.newest }

/-- The state with a member joined to the alert set of the record `u` in slot `n` (R18). -/
def State.joinMember (s : State) (n : Nat) (u : Subscriber) (m : Member) : State :=
  s.putSub n { u with alerts := addBit u.alerts m.bit }

theorem State.joinMember_slot {s : State} {n : Nat} {u : Subscriber} (hu : (s.slot n).sub = some u)
    (m : Member) :
    (s.joinMember n u m).slot n
      = { s.slot n with sub := some { u with alerts := addBit u.alerts m.bit } } := by
  unfold State.joinMember
  rw [State.slot_putSub, if_pos ⟨rfl, s.slot_lt_of_sub n u hu⟩]

theorem State.joinMember_slot_of_ne (s : State) {n k : Nat} (hk : k ≠ n) (u : Subscriber) (m : Member) :
    (s.joinMember n u m).slot k = s.slot k := by
  unfold State.joinMember
  rw [State.slot_putSub, if_neg fun hc => hk hc.1.symm]

theorem State.joinMember_hasAlert (s : State) (n : Nat) (u : Subscriber) (m : Member)
    (k : DeviceAlert) : (s.joinMember n u m).hasAlert k = s.hasAlert k := rfl

/-- A member that is latched already changes nothing (R181). -/
theorem State.latchMember_of_latched {s : State} {n : Nat} {u : Subscriber} {m : Member}
    (hu : (s.slot n).sub = some u) (hm : u.hasMember m = true) : s.latchMember n m = s := by
  unfold State.latchMember
  rw [hu]
  exact if_pos hm

/-- A member that is not latched joins its set, and its notice is offered unless its kind is masked
(R181). -/
theorem State.latchMember_of_new {s : State} {n : Nat} {u : Subscriber} {m : Member}
    (hu : (s.slot n).sub = some u) (hm : u.hasMember m = false) :
    s.latchMember n m
      = if s.masked m.kind then s.joinMember n u m
        else (s.joinMember n u m).offerGeneral (s.memberNotice n m) := by
  unfold State.latchMember
  rw [hu]
  exact if_neg (by rw [hm]; exact Bool.false_ne_true)

/-- Settles O8: the latch, and then the notice is masked, joins the section, or is dropped. -/
theorem subscriberAlertLatches : Obligations.SubscriberAlertLatches := by
  unfold Obligations.SubscriberAlertLatches
  intro s n u m hu
  refine ⟨State.latchMember_of_latched hu, fun hm => ?_⟩
  have written := State.joinMember_slot hu m
  have others (k : Nat) (hk : k ≠ n) := s.joinMember_slot_of_ne hk u m
  rw [State.latchMember_of_new hu hm]
  by_cases masked : s.masked m.kind = true
  · rw [if_pos masked]
    refine ⟨(s.joinMember n u m).slots, s.link.alerts, s.notices.general, _, rfl, written, others,
      u.hasMember_addBit m, fun k => ?_, ?_⟩
    · simp [State.joinMember_hasAlert, masked]
    · simp [masked]
  · rw [if_neg masked]
    rw [Bool.not_eq_true] at masked
    by_cases room : s.notices.general.length < 24
    · rw [State.offerGeneral_of_room (s := s.joinMember n u m) room]
      refine ⟨(s.joinMember n u m).slots, s.link.alerts, _, _, rfl, written, others,
        u.hasMember_addBit m, fun k => ?_, ?_⟩
      · rw [decide_eq_false (Nat.not_le.mpr room), Bool.and_false, Bool.or_false]
        rfl
      · rw [if_pos ⟨masked, room⟩]
        rfl
    · rw [State.offerGeneral_of_full (s := s.joinMember n u m) (Nat.not_lt.mp room)]
      refine ⟨(s.joinMember n u m).slots, addBit s.link.alerts DeviceAlert.noticeLost.code,
        s.notices.general, _, rfl, written, others, u.hasMember_addBit m, fun k => ?_, ?_⟩
      · rw [State.hasAlert_setAlert, State.joinMember_hasAlert, masked,
          decide_eq_true (Nat.not_lt.mp room), Bool.not_false, Bool.and_true, Bool.and_true]
      · rw [if_neg fun hc => room hc.2]

end Sys2Proof.Machine

/-! ### The straps and the rate they select: no command but a device reset changes them (R163) -/

namespace Sys2Proof.Machine

/-- The strap levels sampled, and the rate they select (R163). -/
def Link.straps (l : Link) : PinLevel × PinLevel × LineRate := (l.baud1, l.baud0, l.lineRate)

/-- `t` has the straps and the rate of `s`. -/
def State.SameStraps (s t : State) : Prop := t.link.straps = s.link.straps

/-! #### The shared operations -/

theorem State.OnlyAlerts.straps {s t : State} (h : s.OnlyAlerts t) : t.link.straps = s.link.straps := by
  rw [h.link]
  rfl

theorem State.OnlyTable.straps {s t : State} (h : s.OnlyTable t) : t.link.straps = s.link.straps := by
  rw [h.link]
  rfl

theorem State.joinAnswer_straps (s : State) (f : Frame) (r : Result) (d : AnswerData) :
    (s.joinAnswer f r d).link.straps = s.link.straps := by
  unfold Link.straps
  simp

theorem State.answerHead_straps (s : State) (r : Result) :
    (s.answerHead r).link.straps = s.link.straps := by
  unfold State.answerHead
  split
  · exact State.joinAnswer_straps _ _ _ _
  · rfl

theorem State.startMarkedPass_straps (s : State) (f : U16) :
    (s.startMarkedPass f).link.straps = s.link.straps := by
  have answered : ((s.startPass f).answerHead .ok).link.straps = s.link.straps :=
    (State.answerHead_straps _ _).trans (State.onlyTable_startPass s f).straps
  rcases State.startMarkedPass_cases s f with he | ⟨b, ho, he⟩
  · rw [he]
    exact answered
  · rw [he]
    exact ho.straps.trans answered

theorem State.resolveDeferred_straps (s : State) : s.resolveDeferred.link.straps = s.link.straps := by
  unfold State.resolveDeferred
  split
  · exact State.startMarkedPass_straps s _
  · exact State.answerHead_straps _ _
  · rfl
  · rfl

theorem State.complete_straps (s : State) : s.complete.link.straps = s.link.straps := by
  obtain ⟨al, more, mo, sl, b, he, rfl, -⟩ := State.complete_footprint s
  rw [he]
  rfl

theorem State.flush_straps (s : State) (d : Direction) : (s.flush d).link.straps = s.link.straps := by
  obtain ⟨more, rs, q, he, -⟩ := State.flush_shape s d
  rw [he]

theorem State.endPlacer_straps (s : State) (d : Direction) (why : EndReason) :
    (s.endPlacer d why).link.straps = s.link.straps := by
  unfold State.endPlacer
  dsimp only
  split
  · exact (State.resolveDeferred_straps _).trans
      ((State.complete_straps _).trans (State.flush_straps _ d))
  · exact State.flush_straps _ d

theorem State.beginPlacement_straps (s : State) : s.beginPlacement.link.straps = s.link.straps :=
  (State.onlyAlerts_takeAllowance s.orderLists _).straps

theorem State.truncate_straps (s : State) (c : Cause) :
    (s.truncate c).link.straps = s.link.straps := by
  cases hs : s.ranker.stage with
  | idle => rw [State.truncate_idle s c hs]
  | constructing =>
    rw [State.truncate_constructing s c hs]
    exact (State.endPlacer_straps _ _ _).trans
      ((State.endPlacer_straps _ _ _).trans (State.beginPlacement_straps _))
  | placing => rw [State.truncate_placing s c hs]

theorem State.deferUntilIdle_straps (s : State) (waiting : Decoding) (c : Cause) :
    (s.deferUntilIdle waiting c).link.straps = s.link.straps := by
  unfold State.deferUntilIdle
  dsimp only
  split
  · exact State.resolveDeferred_straps _
  · exact State.truncate_straps _ c
  · exact State.truncate_straps _ c

theorem State.placeCandidate_straps (s : State) (d : Direction) (c : Candidate) :
    (s.placeCandidate d c).link.straps = s.link.straps := by
  rcases State.placeCandidate_cases s d c with ⟨he, -⟩ | ⟨k, r, tiles, he⟩ | ⟨u, t, he, -⟩
  · rw [he]
    exact State.endPlacer_straps s d _
  · rw [he]
    exact (State.onlyTable_skipCandidate s d c k r tiles).straps
  · obtain ⟨more, rs, q, ho, -⟩ := State.grantCandidate_footprint s d c u t
    rw [he, ho.straps]
    cases d <;> rfl

theorem State.placerStep_straps (s : State) (d : Direction) (begun : Bool) :
    (s.placerStep d begun).link.straps = s.link.straps := by
  unfold State.placerStep
  split
  · exact State.endPlacer_straps s d _
  · exact State.placeCandidate_straps s d _
  · exact State.endPlacer_straps s d _
  · split
    · unfold State.stopAfter
      split
      · exact (State.endPlacer_straps _ d _).trans (State.placeCandidate_straps s d _)
      · exact State.placeCandidate_straps s d _
    · exact State.endPlacer_straps s d _

theorem State.discardFrame_straps (s : State) (a : DeviceAlert) :
    (s.discardFrame a).link.straps = s.link.straps :=
  (State.onlyAlerts_latchDevice (s.putRx .hunt) a s.ranker.newest).straps

theorem State.receiveHeader_straps (s : State) (got : List Byte) (b : Byte) :
    (s.receiveHeader got b).link.straps = s.link.straps := by
  unfold State.receiveHeader
  split
  · split
    · exact State.discardFrame_straps s _
    · split <;> rfl
  · rfl

theorem State.receiveCrc_straps (s : State) (kind tag : Byte) (got : List Byte) (hi : Option Byte)
    (b : Byte) : (s.receiveCrc kind tag got hi b).link.straps = s.link.straps := by
  unfold State.receiveCrc
  split
  · rfl
  · split
    · rfl
    · exact State.discardFrame_straps s _

theorem State.receive_straps (s : State) (b : Byte) : (s.receive b).link.straps = s.link.straps := by
  unfold State.receive
  split
  · split <;> rfl
  · split
    · rfl
    · split <;> rfl
  · split
    · exact State.receiveHeader_straps s _ b
    · exact State.discardFrame_straps s _
  · split
    · unfold State.receiveBody
      split <;> rfl
    · exact State.discardFrame_straps s _
  · exact State.receiveCrc_straps s _ _ _ _ b

theorem State.leaveLine_straps (s : State) (t : Transmission) :
    (s.leaveLine t).link.straps = s.link.straps := by
  unfold State.leaveLine
  dsimp only
  split <;> rfl

/-! #### The owning blocks -/

/-- The block leaves the straps. -/
def KeepsStraps (block : List Byte → State → Reply) : Prop :=
  ∀ b s, (block b s).state.link.straps = s.link.straps

/-- A request that names a handle leaves the straps when what it does to the subscriber does. -/
theorem keepsStraps_withNamed {act : Handle → Subscriber → State → Reply}
    (h : ∀ k u s, (act k u s).state.link.straps = s.link.straps) : KeepsStraps (withNamed act) := by
  intro b s
  unfold withNamed
  split
  · exact h _ _ _
  · rfl

theorem keepsStraps_alertClear : KeepsStraps alertClearBlock := by
  intro b s
  unfold alertClearBlock State.clearNamed
  split
  · rfl
  · split
    · rfl
    · rfl
    · split
      · rfl
      · split <;> rfl

theorem keepsStraps_alertMask : KeepsStraps alertMaskBlock := by
  intro b s
  unfold alertMaskBlock
  split <;> rfl

theorem keepsStraps_rateTable : KeepsStraps rateTableBlock := by
  intro b s
  unfold rateTableBlock
  split <;> rfl

theorem keepsStraps_trackSetup : KeepsStraps trackSetupBlock := by
  intro b s
  unfold trackSetupBlock
  split <;> rfl

theorem keepsStraps_classProfile : KeepsStraps classProfileBlock := by
  intro b s
  unfold classProfileBlock
  split <;> rfl

theorem keepsStraps_energyTable : KeepsStraps energyTableBlock := by
  intro b s
  unfold energyTableBlock
  split <;> rfl

theorem keepsStraps_passSetup : KeepsStraps passSetupBlock := by
  intro b s
  unfold passSetupBlock
  split <;> rfl

theorem keepsStraps_admission : KeepsStraps admitBlock := by
  intro b s
  unfold admitBlock
  split
  · rfl
  · split
    · split <;> rfl
    · rfl

theorem suspendBlock_straps (k : Handle) (u : Subscriber) (s : State) :
    (suspendBlock k u s).state.link.straps = s.link.straps := by
  unfold suspendBlock
  split <;> rfl

theorem resumeBlock_straps (k : Handle) (u : Subscriber) (s : State) :
    (resumeBlock k u s).state.link.straps = s.link.straps := by
  unfold resumeBlock
  split <;> rfl

theorem linkUpdateFields_straps (b : List Byte) (k : Handle) (u : Subscriber) (s : State) :
    (linkUpdateFields b k u s).state.link.straps = s.link.straps := by
  unfold linkUpdateFields
  split
  · rfl
  · split
    · split
      · rfl
      · split <;> rfl
    · rfl
    · rfl

theorem keepsStraps_subscriberRead : KeepsStraps subscriberReadBlock := by
  intro b s
  unfold subscriberReadBlock
  dsimp only
  split
  · rfl
  · split <;> rfl
  · split
    · split <;> rfl
    · rfl

theorem keepsStraps_monitorSetup : KeepsStraps monitorSetupBlock := by
  intro b s
  unfold monitorSetupBlock
  split <;> rfl

theorem keepsStraps_bufferSetup : KeepsStraps bufferSetupBlock := by
  intro b s
  unfold bufferSetupBlock
  split <;> rfl

theorem keepsStraps_counterRead : KeepsStraps counterReadBlock := by
  intro b s
  unfold counterReadBlock
  split
  · rfl
  · dsimp only
    split <;> rfl

theorem keepsStraps_captureRead : KeepsStraps captureReadBlock := by
  intro b s
  unfold captureReadBlock
  dsimp only
  split <;> rfl

/-! #### Every command -/

section
variable (s : State)

theorem execConstructSlot_straps :
    LeadsTo (execConstructSlot s) s.SameStraps := by
  have constructed : (s.constructAt s.ranker.nextSlot).link.straps = s.link.straps := by
    obtain ⟨views, lists, ho⟩ := s.constructAt_footprint s.ranker.nextSlot
    exact ho.straps
  unfold execConstructSlot
  split
  · refine .next ?_
    split
    · exact (State.beginPlacement_straps _).trans constructed
    · exact constructed
  · exact .next rfl

theorem execPlaceCandidate_straps (d : Direction) (begun : Bool) :
    LeadsTo (execPlaceCandidate d begun s) s.SameStraps := by
  unfold execPlaceCandidate
  split
  · exact .next (State.placerStep_straps s d begun)
  · exact .next rfl

theorem execDeadlineExpiry_straps :
    LeadsTo (execDeadlineExpiry s) s.SameStraps := by
  unfold execDeadlineExpiry
  split
  · refine .next ?_
    split
    · rfl
    · exact State.truncate_straps _ _
  · exact .next rfl

/-- No command but the three device resets changes the straps or the rate (R163). -/
theorem exec_straps (c : Instr)
    (hc : ∀ b1 b0, c ≠ .powerOn b1 b0 ∧ c ≠ .resetLineRelease b1 b0 ∧ c ≠ .restartReset b1 b0) :
    LeadsTo (exec c s) s.SameStraps := by
  have here : s.SameStraps s := rfl
  have answering (t : State) (f : Frame) (r : Result) (d : AnswerData) (h : s.SameStraps t) :
      s.SameStraps (t.joinAnswer f r d) := (t.joinAnswer_straps f r d).trans h
  have defer (t : State) (w : Decoding) (c : Cause) (h : s.SameStraps t) :
      s.SameStraps (t.deferUntilIdle w c) :=
    (t.deferUntilIdle_straps w c).trans h
  have discard (t : State) (a : DeviceAlert) (h : s.SameStraps t) : s.SameStraps (t.discardFrame a) :=
    (t.discardFrame_straps a).trans h
  have request {block : List Byte → State → Reply} (hb : KeepsStraps block) (k : Request) (len : Nat)
      (rule : State → Option Result) : LeadsTo (s.runRequest k len rule block) s.SameStraps :=
    State.runRequest_keeps here answering (fun b t h => (hb b t).trans h) k len rule
  have batch {apply : List Byte → State → EntryTaken}
      (ha : ∀ (e : List Byte) (t : State), t.OnlyTable (apply e t).state) (k : Request)
      (codesOk : List Byte → Bool) (n : Nat) : LeadsTo (s.runBatch k codesOk apply n) s.SameStraps :=
    State.runBatch_keeps here answering (fun _ h => h)
      (fun es t h => (State.onlyAlerts_takeEvents t es).straps.trans h)
      (fun e t h => (ha e t).straps.trans h) (fun _ _ h => h) k codesOk n
  cases c with
  | receiveByte b =>
    refine .next ?_
    split
    · exact State.receive_straps s b
    · rfl
  | framingError =>
    exact execFramingError_keeps here discard (fun _ h => h) (fun _ h => h) fun _ h => h
  | frameIdleTimeout => exact execFrameIdleTimeout_keeps here discard (fun _ h => h) fun _ h => h
  | unknownKindRequest => exact execUnknownKindRequest_keeps here answering
  | status => exact request (fun _ _ => rfl) _ _ _
  | restart => exact execRestart_keeps here answering fun _ h => h
  | serviceOn => exact request (fun _ _ => rfl) _ _ _
  | serviceOff => exact execServiceOff_keeps here answering defer
  | alertClear => exact request keepsStraps_alertClear _ _ _
  | alertMask => exact request keepsStraps_alertMask _ _ _
  | rateTable => exact request keepsStraps_rateTable _ _ _
  | trackSetup => exact request keepsStraps_trackSetup _ _ _
  | classProfile => exact request keepsStraps_classProfile _ _ _
  | energyTable => exact request keepsStraps_energyTable _ _ _
  | passSetup => exact request keepsStraps_passSetup _ _ _
  | admission => exact request keepsStraps_admission _ _ _
  | release => exact request (keepsStraps_withNamed fun _ _ _ => rfl) _ _ _
  | suspend => exact request (keepsStraps_withNamed suspendBlock_straps) _ _ _
  | resume => exact request (keepsStraps_withNamed resumeBlock_straps) _ _ _
  | linkUpdate =>
    exact request (fun b t => keepsStraps_withNamed (linkUpdateFields_straps b) b t) _ _ _
  | subscriberRead => exact request keepsStraps_subscriberRead _ _ _
  | frameMark => exact execFrameMark_keeps here answering defer
  | qualityBatch n => exact batch State.onlyTable_qualityEntry _ _ n
  | queueBatch n => exact batch State.onlyTable_queueEntry _ _ n
  | outcomeBatch n => exact batch State.onlyTable_outcomeEntry _ _ n
  | energyReport => exact request (fun _ _ => rfl) _ _ _
  | monitorSetup =>
    exact execMonitorSetup_keeps here answering fun b t h => (keepsStraps_monitorSetup b t).trans h
  | monitorSetupBuffer =>
    exact execMonitorSetupBuffer_keeps here answering fun b t h =>
      (keepsStraps_bufferSetup b t).trans h
  | counterRead => exact request keepsStraps_counterRead _ _ _
  | captureRead => exact request keepsStraps_captureRead _ _ _
  | traceRead => exact request (fun _ _ => rfl) _ _ _
  | traceResume => exact request (fun _ _ => rfl) _ _ _
  | messageSent =>
    exact execMessageSent_keeps here (fun t x h => (t.leaveLine_straps x).trans h) (fun _ h => h)
      fun _ h => h
  | resetLineAssert =>
    refine .next ?_
    split <;> rfl
  | constructSlot => exact execConstructSlot_straps s
  | placeCandidate d begun => exact execPlaceCandidate_straps s d begun
  | deadlineExpiry => exact execDeadlineExpiry_straps s
  | lineReturnToIdle => exact .next rfl
  | powerOn b1 b0 =>
    obtain ⟨hne, -⟩ := hc b1 b0
    exact absurd rfl hne
  | resetLineRelease b1 b0 =>
    obtain ⟨-, hne, -⟩ := hc b1 b0
    exact absurd rfl hne
  | restartReset b1 b0 =>
    obtain ⟨-, -, hne⟩ := hc b1 b0
    exact absurd rfl hne

end

/-! ### The device resets (R163, R178, R179) -/

/-- Before RESTARTED is latched a reset part has no alert latched and none masked (R179, R182). -/
theorem State.resetBlocks_latch (s : State) (b1 b0 : PinLevel) :
    (s.resetBlocks b1 b0).latchDevice .restarted none
      = { s.resetBlocks b1 b0 with
          link := { resetLink b1 b0 with alerts := 1#10 }
          notices := { resetNotices with general := [⟨restartedNotice, .waiting⟩] } } := by
  have latched : (s.resetBlocks b1 b0).hasAlert .restarted = false := BitVec.getLsbD_zero
  have masked : (s.resetBlocks b1 b0).masked (.device .restarted) = false := BitVec.getLsbD_zero
  have room : ((s.resetBlocks b1 b0).setAlert .restarted).notices.general.length < 24 :=
    Nat.zero_lt_succ 23
  have alerts : addBit 0#10 DeviceAlert.restarted.code = 1#10 := by decide
  unfold State.latchDevice
  rw [latched, if_neg Bool.false_ne_true, masked, if_neg Bool.false_ne_true,
    State.offerGeneral_of_room room]
  unfold State.setAlert
  dsimp only
  rw [show (s.resetBlocks b1 b0).link = resetLink b1 b0 from rfl,
    show (resetLink b1 b0).alerts = 0#10 from rfl, alerts]
  rfl

/-- The rate the straps select (R163). -/
theorem lineRateOf_eq (b1 b0 : PinLevel) :
    lineRateOf b1 b0
      = if b1 = .high then .mbaud12 else if b0 = .high then .mbaud6 else .mbaud3 := by
  cases b1 <;> cases b0 <;> rfl

/-- The state after a device reset is the reset state, but for the queue, the draws, and the straps with the
rate they select. -/
theorem State.deviceReset_eq (s : State) (b1 b0 : PinLevel) :
    s.deviceReset b1 b0
      = { State.reset with
          pending := s.pending
          draws := s.draws
          link :=
            { State.reset.link with
              baud1 := b1
              baud0 := b0
              lineRate :=
                if b1 = .high then .mbaud12 else if b0 = .high then .mbaud6 else .mbaud3 } } := by
  unfold State.deviceReset
  rw [State.resetBlocks_latch, ← lineRateOf_eq]
  rfl

/-- Held in reset, the part sends nothing, releases ALERT and takes no byte (R179). -/
theorem State.holdInReset_silent (s : State) :
    s.holdInReset.link.resetHeld = true ∧ s.holdInReset.link.tx = none
      ∧ s.holdInReset.alertLine = false
      ∧ ∀ b, exec (.receiveByte b) s.holdInReset = .next s.holdInReset :=
  ⟨rfl, rfl, rfl, fun _ => rfl⟩

/-- What is latched after a reset is RESTARTED alone (R179). -/
theorem State.reset_hasAlert (a : DeviceAlert) : State.reset.hasAlert a = true ↔ a = .restarted := by
  cases a <;> decide

theorem State.reset_slot (n : Nat) : State.reset.slot n = ⟨0#8, none⟩ := by
  unfold State.slot State.reset
  rw [Vector.getElem?_replicate]
  split <;> rfl

theorem State.reset_view (n : Nat) : State.reset.view n = clearedView := by
  unfold State.view State.reset resetRanker
  rw [Vector.getElem?_replicate]
  split <;> rfl

theorem State.reset_profile (c : Fin 8) : State.reset.profile c = resetProfile := by
  unfold State.profile State.reset
  rw [Fin.getElem_fin, Vector.getElem_replicate]

/-- Settles O54: the three resets by `State.deviceReset_eq`, the part held in reset, the reset values, and
`exec_straps` for every other command. -/
theorem deviceResets : Obligations.DeviceResets := by
  unfold Obligations.DeviceResets
  refine ⟨fun s b1 b0 => ?_, fun s hs => ?_, ?_, fun c s t ht hc => ?_⟩
  · intro fresh held
    have hfresh : s.deviceReset b1 b0 = fresh := s.deviceReset_eq b1 b0
    rw [← hfresh]
    refine ⟨rfl, rfl, ?_⟩
    show Host.Outcome.next (if s.link.restart = .resetDue ∧ s.link.resetHeld = false then _ else _) = _
    simp only [held, Bool.not_eq_true]
  · refine ⟨s.holdInReset, ?_, s.holdInReset_silent⟩
    show Host.Outcome.next (if s.link.resetHeld = true then _ else _) = _
    rw [if_neg (by rw [hs]; exact Bool.false_ne_true)]
  · intro r
    refine ⟨⟨rfl, rfl, rfl, rfl, rfl, rfl⟩, State.reset_hasAlert, rfl, by decide,
      fun n _ => State.reset_slot n, rfl, State.reset_profile, rfl, rfl,
      ⟨rfl, rfl, rfl, rfl, rfl, rfl⟩, State.reset_view, rfl, fun d => by cases d <;> rfl, ⟨rfl, rfl⟩,
      rfl, fun d => by cases d <;> exact ⟨rfl, rfl, rfl⟩, rfl⟩
  · have straps := exec_straps s c hc t ht
    simp only [State.SameStraps, Link.straps, Prod.mk.injEq] at straps
    exact straps

/-! ### The invariants of the reset state -/

/-- A device reset with both straps low is the reset state itself. -/
theorem State.deviceReset_reset : State.reset.deviceReset .low .low = State.reset :=
  State.deviceReset_eq State.reset .low .low

theorem State.reset_passInv : State.reset.PassInv := by
  refine ⟨fun _ => ⟨rfl, rfl⟩, fun h => absurd rfl h, fun h => (by cases h), fun h => (by cases h),
    fun _ => ⟨?_, ?_⟩, fun h => (by cases h), fun h => (by cases h), fun h => absurd rfl h,
    fun h => absurd rfl h⟩
  · exact PlacerStage.noConfusion
  · exact PlacerStage.noConfusion

/-- The notice of RESTARTED is on the line, and nothing else waits (R179). -/
theorem State.reset_lineInv : State.reset.LineInv := by
  have agrees : State.reset.TxAgrees :=
    ⟨rfl, fun e he => (by cases he), fun e he => (by cases he)⟩
  refine ⟨agrees, fun h => (by cases h), by decide, by decide, fun h => (by cases h), fun h => absurd rfl h,
    fun h => (by cases h), fun h => (by cases h), fun h => absurd rfl h⟩

theorem State.reset_grantInv : State.reset.GrantInv :=
  ⟨fun _ e he => (by cases he), fun h => (by cases h), Nat.zero_le _, fun h => (by cases h),
    fun h => (by cases h)⟩

theorem State.reset_placementInv : State.reset.PlacementInv := by
  refine ⟨by decide, by decide, fun d => ?_, fun h => (by cases h)⟩
  cases d
  · exact ⟨fun c hc => (by cases hc), fun c hc => (by cases hc)⟩
  · exact ⟨fun c hc => (by cases hc), fun c hc => (by cases hc)⟩

/-- Settles O60: the reset state is idle and empty, and its ranges are those of every device reset. -/
theorem invariantsHoldAtReset : Obligations.InvariantsHoldAtReset := by
  unfold Obligations.InvariantsHoldAtReset
  have ranges : State.reset.Ranges := by
    rw [← State.deviceReset_reset]
    exact State.deviceReset_ranges _ _ _
  exact ⟨State.reset_passInv, State.reset_lineInv, State.reset_grantInv, State.reset_placementInv,
    ranges.records, ranges.tables, ranges.energy, ranges.monitor, ranges.inbound⟩

end Sys2Proof.Machine

/-! ### A batch: its shape, its codes and the taking of its entries (R22, R23, R50, R55, R170, R171) -/

namespace Sys2Proof.Machine

/-! #### The bytes of an entry -/

theorem dirOf_eq_some_iff {n : Nat} {d : Direction} : dirOf n = some d ↔ n = dirCode d := by
  unfold dirOf
  by_cases h0 : n = 0
  · cases d <;> simp [h0, dirCode]
  · by_cases h1 : n = 1
    · cases d <;> simp [h1, dirCode]
    · cases d <;> simp [h0, h1, dirCode]

/-- A direction code above 1 names no direction. -/
theorem dirOf_isSome_iff {n : Nat} : (dirOf n).isSome = true ↔ n ≤ 1 := by
  rw [Option.isSome_iff_exists]
  constructor
  · rintro ⟨d, hd⟩
    rw [dirOf_eq_some_iff.mp hd]
    cases d
    · exact Nat.zero_le 1
    · exact le_rfl
  · intro h
    rcases Nat.le_one_iff_eq_zero_or_eq_one.mp h with h0 | h1
    · exact ⟨.dl, dirOf_eq_some_iff.mpr h0⟩
    · exact ⟨.ul, dirOf_eq_some_iff.mpr h1⟩

/-- An outcome result is a flag byte, set for FAILED. -/
theorem failedOf_eq_flagOf (n : Nat) : failedOf n = flagOf n := rfl

/-- An outcome result code above 1 is no code. -/
theorem failedOf_isSome_iff {n : Nat} : (failedOf n).isSome = true ↔ n ≤ 1 := by
  rw [failedOf_eq_flagOf, Option.isSome_iff_ne_none, ne_eq, flagOf_eq_none_iff, not_lt]

theorem entryDirOk_iff {e : List Byte} : entryDirOk e = true ↔ num1 e 2 ≤ 1 := dirOf_isSome_iff

theorem outcomeCodesOk_iff {e : List Byte} :
    outcomeCodesOk e = true ↔ num1 e 2 ≤ 1 ∧ num1 e 5 ≤ 1 := by
  unfold outcomeCodesOk
  rw [Bool.and_eq_true, entryDirOk_iff, failedOf_isSome_iff]

/-- A byte of a slice of a body. -/
theorem num1_slice (b : List Byte) (k : Nat) {size j : Nat} (h : j < size) :
    num1 ((b.drop k).take size) j = num1 b (k + j) := by
  unfold num1 byteAt
  rw [List.getD_eq_getElem?_getD, List.getElem?_take_of_lt h, List.getElem?_drop,
    ← List.getD_eq_getElem?_getD]

/-- The entries of a batch body behind its count byte. -/
theorem mem_batchEntries {size i : Nat} {count : Byte} {rest : List Byte} (h : i < count.toNat) :
    (rest.drop (size * i)).take size ∈ batchEntries size (count :: rest) :=
  List.mem_map.mpr ⟨i, List.mem_range.mpr h, by rw [Nat.add_comm, List.drop_succ_cons]⟩

/-! #### The shape of a batch (R170 step 2, R188) -/

/-- A count of 0 or above 32 is BAD_FIELD, whatever the length. -/
theorem batchFault_of_count {size : Nat} {count : Byte} {rest : List Byte}
    (h : count.toNat = 0 ∨ 32 < count.toNat) : batchFault size (count :: rest) = some .badField := by
  have hcount : num1 (count :: rest) 0 = count.toNat := rfl
  unfold batchFault
  rw [hcount, List.length_cons, if_neg (Nat.succ_ne_zero _), if_pos h]

/-- A right count with another length is BAD_LENGTH. -/
theorem batchFault_of_length {size : Nat} {count : Byte} {rest : List Byte} (h1 : 1 ≤ count.toNat)
    (h32 : count.toNat ≤ 32) (h : rest.length ≠ size * count.toNat) :
    batchFault size (count :: rest) = some .badLength := by
  have hcount : num1 (count :: rest) 0 = count.toNat := rfl
  unfold batchFault Config.maxBatch
  rw [hcount, List.length_cons, if_neg (by omega), if_neg (by omega), if_pos (by omega)]

/-- A right count and length are no fault. -/
theorem batchFault_eq_none {size : Nat} {b : List Byte} (h1 : 1 ≤ num1 b 0) (h32 : num1 b 0 ≤ 32)
    (h : b.length = 1 + size * num1 b 0) : batchFault size b = none := by
  unfold batchFault Config.maxBatch
  rw [if_neg (by omega), if_neg (by omega), if_neg (by omega)]

/-! #### The step of a batch -/

/-- A new batch whose frame may be taken up. -/
theorem State.batchFrame_of_takesUp {s : State} {f : Frame} {q : Request} (h : s.TakesUp f)
    (hk : f.kind = q.code) : s.batchFrame q = some (f, none) := by
  obtain ⟨hheld, hrestart, hroom, hidle, hhead⟩ := h
  obtain ⟨rest, haccepted⟩ := List.head?_eq_some_iff.mp hhead
  simp [State.batchFrame, State.mayDecode, hheld, hrestart, hroom, hidle, haccepted, hk]

/-- A batch between two of its entries. -/
theorem State.batchFrame_of_between {s : State} {f : Frame} {q : Request} {p : BatchProgress}
    (hheld : s.link.resetHeld = false) (hrestart : s.link.restart = .none)
    (hroom : s.link.answers.length < 16) (hbatch : s.link.decoding = .batch p)
    (hhead : s.link.accepted.head? = some f) (hk : f.kind = q.code) :
    s.batchFrame q = some (f, some p) := by
  obtain ⟨rest, haccepted⟩ := List.head?_eq_some_iff.mp hhead
  simp [State.batchFrame, State.mayDecode, hheld, hrestart, hroom, hbatch, haccepted, hk]

section
variable {s : State} {f : Frame} {q : Request} {codesOk : List Byte → Bool}
  {apply : List Byte → State → EntryTaken}

/-- A new batch whose shape is wrong ends its decoding with the fault. -/
theorem State.runBatch_of_fault {r : Result} (h : s.TakesUp f) (hk : f.kind = q.code)
    (hr : batchFault (entrySize q) f.body = some r) (n : Nat) :
    s.runBatch q codesOk apply n = .next (s.joinAnswer f r .empty) := by
  unfold State.runBatch
  rw [State.batchFrame_of_takesUp h hk]
  dsimp only
  rw [hr]

/-- A new batch with a wrong code in an entry is refused before any entry is taken. -/
theorem State.runBatch_of_badCode (h : s.TakesUp f) (hk : f.kind = q.code)
    (hshape : batchFault (entrySize q) f.body = none) {e : List Byte}
    (he : e ∈ batchEntries (entrySize q) f.body) (hcode : ¬codesOk e = true) (n : Nat) :
    s.runBatch q codesOk apply n = .next (s.joinAnswer f .badField .empty) := by
  unfold State.runBatch
  rw [State.batchFrame_of_takesUp h hk]
  dsimp only
  rw [hshape]
  dsimp only
  rw [if_neg fun hall => hcode (List.all_eq_true.mp hall e he)]

/-- A new batch that is right takes entries from the first on. -/
theorem State.runBatch_of_new (h : s.TakesUp f) (hk : f.kind = q.code)
    (hshape : batchFault (entrySize q) f.body = none)
    (hcodes : (batchEntries (entrySize q) f.body).all codesOk = true) (n : Nat) :
    s.runBatch q codesOk apply n
      = .next (s.continueBatch f (entrySize q) apply ⟨0, 0, []⟩ n) := by
  unfold State.runBatch
  rw [State.batchFrame_of_takesUp h hk]
  dsimp only
  rw [hshape]
  dsimp only
  rw [if_pos hcodes]

/-- A batch between two of its entries goes on with the next one. -/
theorem State.runBatch_of_between {p : BatchProgress} (h : s.batchFrame q = some (f, some p)) (n : Nat) :
    s.runBatch q codesOk apply n = .next (s.continueBatch f (entrySize q) apply p n) := by
  unfold State.runBatch
  rw [h]

end

/-- A decoding that ends on the state a block has made of `s`, a message that was being sent when it began
going on being sent. -/
theorem State.answeredAs_joinAnswer {s s' : State} (f : Frame) (r : Result) (d : AnswerData)
    (hanswers : s'.link.answers = s.link.answers) (haccepted : s'.link.accepted = s.link.accepted)
    (htx : s.link.tx.isSome = true → s'.link.tx = s.link.tx) :
    s.AnsweredAs (s'.joinAnswer f r d) f r d s' := by
  obtain ⟨joined, freed, ended, line⟩ := State.answered_joinAnswer s' f r d
  rw [hanswers] at joined
  rw [haccepted] at freed
  have busy (h : s.link.tx.isSome = true) : s'.link.tx.isSome = true := by rw [htx h]; exact h
  exact ⟨⟨joined, freed, ended, fun h => (line (busy h)).trans (htx h)⟩,
    State.inner_joinAnswer s' f r d, fun h => State.notices_joinAnswer_of_busy s' f r d (busy h)⟩

/-! #### The three batches -/

section
variable {c : Nat → Instr} {kind : Byte} {size : Nat} {codesOk : List Byte → Bool}
  {apply : List Byte → State → EntryTaken} (h : BatchOf c kind size codesOk apply)
include h

/-- A batch command is `State.runBatch` of its request. -/
theorem BatchOf.runs : ∃ q : Request, q.code = kind ∧ entrySize q = size
    ∧ ∀ n s, exec (c n) s = s.runBatch q codesOk apply n := by
  rcases h with ⟨rfl, rfl, rfl, rfl, rfl⟩ | ⟨rfl, rfl, rfl, rfl, rfl⟩ | ⟨rfl, rfl, rfl, rfl, rfl⟩
  · exact ⟨.qualityBatch, rfl, rfl, fun _ _ => rfl⟩
  · exact ⟨.queueBatch, rfl, rfl, fun _ _ => rfl⟩
  · exact ⟨.outcomeBatch, rfl, rfl, fun _ _ => rfl⟩

/-- An entry writes the slots and raises alerts, and nothing else. -/
theorem BatchOf.onlyTable (e : List Byte) (s : State) : s.OnlyTable (apply e s).state := by
  rcases h with ⟨-, -, -, -, rfl⟩ | ⟨-, -, -, -, rfl⟩ | ⟨-, -, -, -, rfl⟩
  · exact State.onlyTable_qualityEntry e s
  · exact State.onlyTable_queueEntry e s
  · exact State.onlyTable_outcomeEntry e s

/-- The check of an entry's codes refuses a direction code, and an outcome result code, above 1. -/
theorem BatchOf.badCode {b : List Byte} {k : Nat}
    (hb : 1 < num1 b (k + 2) ∨ kind = 0x1B#8 ∧ 1 < num1 b (k + 5)) :
    ¬codesOk ((b.drop k).take size) = true := by
  rcases h with ⟨-, rfl, rfl, rfl, -⟩ | ⟨-, rfl, rfl, rfl, -⟩ | ⟨-, rfl, rfl, rfl, -⟩
  · have hdir : 1 < num1 b (k + 2) := hb.resolve_right (by simp)
    rw [entryDirOk_iff, num1_slice b k (by decide)]
    omega
  · have hdir : 1 < num1 b (k + 2) := hb.resolve_right (by simp)
    rw [entryDirOk_iff, num1_slice b k (by decide)]
    omega
  · rw [outcomeCodesOk_iff, num1_slice b k (by decide), num1_slice b k (by decide)]
    omega

end

/-- Every row of the table of batches is one of the three batches. -/
theorem exists_batchOf {r : (Nat → Instr) × Byte × Nat} (hr : r ∈ batchRequests) :
    ∃ codesOk apply, BatchOf r.1 r.2.1 r.2.2 codesOk apply := by
  simp only [batchRequests, List.mem_cons, List.not_mem_nil, or_false] at hr
  rcases hr with rfl | rfl | rfl
  · exact ⟨_, _, .inl ⟨rfl, rfl, rfl, rfl, rfl⟩⟩
  · exact ⟨_, _, .inr (.inl ⟨rfl, rfl, rfl, rfl, rfl⟩)⟩
  · exact ⟨_, _, .inr (.inr ⟨rfl, rfl, rfl, rfl, rfl⟩)⟩

/-- Settles O13: a fault of the shape, or a wrong code in some entry, ends the decoding on the state that
met the batch. -/
theorem misshapenBatchRefused : Obligations.MisshapenBatchRefused := by
  unfold Obligations.MisshapenBatchRefused
  intro r hr n s f ht hk
  obtain ⟨codesOk, apply, hb⟩ := exists_batchOf hr
  obtain ⟨q, hcode, hsize, hexec⟩ := hb.runs
  rw [← hcode] at hk
  have faulty {x : Result} (hx : batchFault r.2.2 f.body = some x) : s.Refuses (r.1 n) f x := by
    refine State.refuses_of_exec s _ f x ?_
    rw [hexec, State.runBatch_of_fault ht hk (hsize ▸ hx)]
  refine ⟨fun hempty => faulty (by rw [hempty]; rfl), fun count rest hbody => ?_⟩
  rw [hbody] at faulty
  refine ⟨fun hcount => faulty (batchFault_of_count hcount), fun h1 h32 =>
    ⟨fun hlen => faulty (batchFault_of_length h1 h32 hlen), fun hlen ⟨i, hi, hbad⟩ => ?_⟩⟩
  have hshape : batchFault (entrySize q) f.body = none := by
    rw [hsize, hbody]
    refine batchFault_eq_none h1 h32 ?_
    rw [List.length_cons, hlen, Nat.add_comm]
    rfl
  have hentry : (rest.drop (r.2.2 * i)).take r.2.2 ∈ batchEntries (entrySize q) f.body := by
    rw [hsize, hbody]
    exact mem_batchEntries hi
  refine State.refuses_of_exec s _ f _ ?_
  rw [hexec, State.runBatch_of_badCode ht hk hshape hentry (hb.badCode hbad)]

/-! #### The entries in their order (R23, R144, R169, R171) -/

theorem BatchProgress.note_taken (p : BatchProgress) (r : Option Reason) :
    (p.note r).taken = p.taken + 1 := by
  cases r <;> rfl

/-- An entry is accepted or refused. -/
theorem BatchProgress.note_counts (p : BatchProgress) (r : Option Reason) :
    (p.note r).accepted + (p.note r).refused.length = p.accepted + p.refused.length + 1 := by
  cases r with
  | none => exact Nat.add_right_comm _ _ _
  | some why =>
    show p.accepted + (p.refused ++ [_]).length = _
    rw [List.length_append]
    rfl

theorem takeEntries_taken (apply : List Byte → State → EntryTaken) (es : List (List Byte))
    (p : BatchProgress) (s : State) : (takeEntries apply es p s).progress.taken = p.taken + es.length := by
  induction es using List.reverseRecOn with
  | nil => rfl
  | append_singleton es e ih =>
    rw [takeEntries_append_one, List.length_append]
    show (BatchProgress.note _ _).taken = _
    rw [BatchProgress.note_taken, ih]
    rfl

theorem takeEntries_counts (apply : List Byte → State → EntryTaken) (es : List (List Byte))
    (p : BatchProgress) (s : State) :
    (takeEntries apply es p s).progress.accepted + (takeEntries apply es p s).progress.refused.length
      = p.accepted + p.refused.length + es.length := by
  induction es using List.reverseRecOn with
  | nil => rfl
  | append_singleton es e ih =>
    rw [takeEntries_append_one, List.length_append]
    show (BatchProgress.note _ _).accepted + (BatchProgress.note _ _).refused.length = _
    rw [BatchProgress.note_counts, ih]
    rfl

/-- The answer that ends a batch, on the link as it stood when the step began (R169). -/
theorem State.takeEntries_answeredAs {apply : List Byte → State → EntryTaken}
    (ha : ∀ (e : List Byte) (s : State), s.OnlyTable (apply e s).state) (es : List (List Byte))
    (p : BatchProgress) (s : State) (f : Frame) (r : Result) (d : AnswerData) :
    s.AnsweredAs ((takeEntries apply es p s).state.joinAnswer f r d) f r d
      (takeEntries apply es p s).state := by
  obtain ⟨-, -, -, -, -, -, -, -, -, -, -, hlink⟩ := State.takeEntries_footprint apply ha es p s
  exact State.answeredAs_joinAnswer f r d (by rw [hlink]) (by rw [hlink])
    (State.takeEntries_tx_of_busy apply ha es p s)

/-- Settles O31: a right batch, new or between two entries, goes on with `State.continueBatch`, which answers
or pauses; the entries are taken one after the other. -/
theorem batchTakesEntriesInOrder : Obligations.BatchTakesEntriesInOrder := by
  unfold Obligations.BatchTakesEntriesInOrder
  intro c kind size codesOk apply hb
  obtain ⟨q, hcode, hsize, hexec⟩ := hb.runs
  constructor
  · intro s f p n hk h1 h32 hlen hstands rest r
    rw [← hcode] at hk
    have goesOn : exec (c n) s = .next (s.continueBatch f size apply p n) := by
      rw [hexec, ← hsize]
      rcases hstands with ⟨ht, hcodes, rfl⟩ | ⟨hheld, hrestart, hroom, hbatch, hhead⟩
      · exact State.runBatch_of_new ht hk (batchFault_eq_none h1 h32 (hsize ▸ hlen)) (hsize ▸ hcodes) n
      · exact State.runBatch_of_between
          (State.batchFrame_of_between hheld hrestart hroom hbatch hhead hk) n
    constructor
    · intro hlast
      refine ⟨r.state.joinAnswer f r.progress.result (.batch r.progress.accepted r.progress.refused),
        ?_, State.takeEntries_answeredAs hb.onlyTable _ _ _ _ _ _⟩
      rw [goesOn]
      unfold State.continueBatch
      rw [if_pos hlast]
      rfl
    · intro hmore
      rw [goesOn]
      unfold State.continueBatch
      rw [if_neg (Nat.not_le.mpr hmore)]
      rfl
  · intro es p s r
    refine ⟨rfl, ?_, takeEntries_taken apply es p s, takeEntries_counts apply es p s⟩
    intro e w k
    rw [takeEntries_append_one]
    show EntriesTaken.mk (k.note w.reason) w.state w.events = _
    cases w.reason <;> rfl

end Sys2Proof.Machine

/-! ### Requests that the device state turns away (R41, R81, R170, R176 to R178) -/

namespace Sys2Proof.Machine

/-- A latched RESTARTED, or a part in SERVICE already, turns SERVICE_ON away (R176). -/
theorem serviceOnRule_wrongState {s : State}
    (h : s.link.device = .service ∨ s.hasAlert .restarted = true) :
    serviceOnRule s = some .wrongState := if_pos h

/-- A part in SERVICE turns away a request that CONFIG alone takes (R41). -/
theorem configOnly_wrongState {s : State} (h : s.link.device = .service) :
    configOnly s = some .wrongState := if_neg (by rw [h]; exact DeviceState.noConfusion)

/-- A pass in flight turns RESTART away (R178). -/
theorem idleOnly_busy {s : State} (h : s.ranker.stage ≠ .idle) : idleOnly s = some .busy :=
  if_pos (decide_eq_true h)

theorem State.decodeRestart_busy {s : State} {f : Frame} (hb : f.body = [])
    (h : s.ranker.stage ≠ .idle) : s.decodeRestart f = s.joinAnswer f .busy .empty := by
  unfold State.decodeRestart
  rw [hb, if_neg (by simp), idleOnly_busy h]

theorem State.decodeServiceOff_wrongState {s : State} {f : Frame} (hb : f.body = [])
    (h : s.link.device = .config) : s.decodeServiceOff f = s.joinAnswer f .wrongState .empty := by
  unfold State.decodeServiceOff
  rw [hb, if_neg (by simp), if_pos h]

theorem State.decodeFrameMark_wrongState {s : State} {f : Frame} (hl : f.body.length = 2)
    (h : s.link.device = .config) : s.decodeFrameMark f = s.joinAnswer f .wrongState .empty := by
  unfold State.decodeFrameMark
  rw [if_neg (not_not.mpr hl), if_pos h]

/-- Settles O14: RESTART, SERVICE_OFF and FRAME_MARK are refused while their frame is decoded, SERVICE_ON and
RATE_TABLE by their state rule. -/
theorem deviceStateRefusals : Obligations.DeviceStateRefusals := by
  unfold Obligations.DeviceStateRefusals
  intro s f ht
  have asked (q : Request) (hk : f.kind = q.code) : s.takeUp (fun g => g.kind == q.code) = some f :=
    State.takeUp_of_takesUp s f _ ht (beq_iff_eq.mpr hk)
  refine ⟨fun hk hb hs => ?_, fun hk hb hs => ?_, fun hk hb hs => ?_, fun hk hl hs => ?_,
    fun hk hl hs => ?_⟩
  · refine State.refuses_of_exec s _ f _ ?_
    show execRestart s = _
    unfold execRestart
    rw [asked .restart hk, ← State.decodeRestart_busy hb hs]
  · exact State.runRequest_ruledOut s f _ .serviceOn 0 serviceOnRule serviceOnBlock _ rfl ht hk
      (by rw [hb]; rfl) (serviceOnRule_wrongState hs)
  · refine State.refuses_of_exec s _ f _ ?_
    show execServiceOff s = _
    unfold execServiceOff
    rw [asked .serviceOff hk, ← State.decodeServiceOff_wrongState hb hs]
  · exact State.runRequest_ruledOut s f _ .rateTable 24 configOnly rateTableBlock _ rfl ht hk hl
      (configOnly_wrongState hs)
  · refine State.refuses_of_exec s _ f _ ?_
    show execFrameMark s = _
    unfold execFrameMark
    rw [asked .frameMark hk, ← State.decodeFrameMark_wrongState hl hs]

end Sys2Proof.Machine

/-! ### RATE_TABLE, TRACK_SETUP and PASS_SETUP (R41, R43, R106) -/

namespace Sys2Proof.Machine

/-- The check of a list's order is a chain. -/
theorem strictlyIncreasing_iff (xs : List Nat) : strictlyIncreasing xs = true ↔ xs.IsChain (· < ·) := by
  induction xs with
  | nil => exact iff_of_true rfl .nil
  | cons a xs ih =>
    cases xs with
    | nil => exact iff_of_true rfl (.singleton a)
    | cons b rest =>
      show (decide (a < b) && strictlyIncreasing (b :: rest)) = true ↔ _
      rw [Bool.and_eq_true, decide_eq_true_eq, ih, List.isChain_cons_cons]

/-- The steps that a RATE_TABLE carries, in order (R188). -/
theorem rateTableOf_toList (b : List Byte) :
    (rateTableOf b).toList
      = (List.range 12).map fun i => RateStep.mk (num1 b (2 * i)) (num1 b (2 * i + 1)) := rfl

/-- What R41 asks of the body of a RATE_TABLE. -/
def RateTableOk (b : List Byte) : Prop :=
  (∀ i < 12, 1 ≤ num1 b (2 * i) ∧ num1 b (2 * i + 1) ≤ 127)
    ∧ ∀ i < 11, num1 b (2 * i) < num1 b (2 * (i + 1)) ∧ num1 b (2 * i + 1) < num1 b (2 * (i + 1) + 1)

theorem rateTableValid_iff (b : List Byte) : rateTableValid (rateTableOf b) = true ↔ RateTableOk b := by
  unfold rateTableValid RateTableOk
  rw [Bool.and_eq_true, Bool.and_eq_true, strictlyIncreasing_iff, strictlyIncreasing_iff,
    rateTableOf_toList, List.isChain_map, List.isChain_map, List.isChain_map, List.isChain_map,
    List.isChain_range_succ, List.isChain_range_succ, and_assoc, ← forall₂_and]
  simp

/-- The block of RATE_TABLE on a body that R41 accepts. -/
theorem rateTableBlock_ok {b : List Byte} (h : RateTableOk b) (s : State) :
    rateTableBlock b s = State.accept { s with rateTable := rateTableOf b } := by
  unfold rateTableBlock parseRateTable
  rw [if_pos ((rateTableValid_iff b).mpr h)]

theorem rateTableBlock_bad {b : List Byte} (h : ¬RateTableOk b) (s : State) :
    rateTableBlock b s = s.refuse .badField := by
  unfold rateTableBlock parseRateTable
  rw [if_neg (mt (rateTableValid_iff b).mp h)]

/-- Settles O20: in CONFIG the block replaces the table, or refuses the body. -/
theorem rateTableReplaced : Obligations.RateTableReplaced := by
  unfold Obligations.RateTableReplaced
  intro s f ht hk hl hconfig r th
  have he : exec .rateTable s = s.runRequest .rateTable 24 configOnly rateTableBlock := rfl
  have hrule : configOnly s = none := if_pos hconfig
  exact ⟨fun hok => State.runRequest_answers s f _ _ _ _ _ _ _ _ he ht hk hl hrule
      (rateTableBlock_ok hok s) rfl rfl rfl,
    fun hbad => State.runRequest_refuses s f _ _ _ _ _ _ he ht hk hl hrule (rateTableBlock_bad hbad s)⟩

/-- What R43 asks of the body of a TRACK_SETUP; the other bounds of its settings are a byte's. -/
def TrackSetupOk (b : List Byte) : Prop :=
  (1 ≤ num1 b 0 ∧ num1 b 0 ≤ 6) ∧ (3 ≤ num1 b 1 ∧ num1 b 1 ≤ 10) ∧ num1 b 0 < num1 b 1
    ∧ num1 b 2 ≤ 15 ∧ (1 ≤ num1 b 3 ∧ num1 b 3 ≤ 40) ∧ num1 b 4 < num1 b 3
    ∧ (1 ≤ num1 b 5 ∧ num1 b 5 ≤ 15) ∧ (1 ≤ num1 b 6 ∧ num1 b 6 ≤ 15) ∧ 1 ≤ num1 b 8 ∧ 1 ≤ num1 b 9
    ∧ (1 ≤ num1 b 10 ∧ num1 b 10 ≤ 63)

theorem trackSetupOf_valid_iff (b : List Byte) : (trackSetupOf b).valid = true ↔ TrackSetupOk b := by
  have timeout := num1_le b 7
  have down := num1_le b 8
  have up := num1_le b 9
  unfold TrackSetup.valid TrackSetupOk trackSetupOf
  rw [decide_eq_true_eq]
  dsimp only
  omega

theorem trackSetupBlock_ok {b : List Byte} (h : TrackSetupOk b) (s : State) :
    trackSetupBlock b s = State.accept { s with trackSetup := trackSetupOf b } := by
  unfold trackSetupBlock parseTrackSetup
  rw [if_pos ((trackSetupOf_valid_iff b).mpr h)]

theorem trackSetupBlock_bad {b : List Byte} (h : ¬TrackSetupOk b) (s : State) :
    trackSetupBlock b s = s.refuse .badField := by
  unfold trackSetupBlock parseTrackSetup
  rw [if_neg (mt (trackSetupOf_valid_iff b).mp h)]

/-- What R106 asks of the body of a PASS_SETUP; the other bounds of its settings are those of their bytes. -/
def PassSetupOk (b : List Byte) : Prop :=
  (100 ≤ num2 b 0 ∧ num2 b 0 ≤ 5000) ∧ (2 ≤ num1 b 2 ∧ num1 b 2 ≤ 8)
    ∧ (1 ≤ num1 b 3 ∧ num1 b 3 ≤ 16) ∧ num2 b 4 ≤ 1000 ∧ 1 ≤ num1 b 6 ∧ num1 b 6 < num2 b 7
    ∧ num1 b 9 ≤ 40 ∧ 1 ≤ num2 b 10 ∧ 1 ≤ num1 b 12 ∧ 1 ≤ num1 b 13

theorem passSetupOf_valid_iff (b : List Byte) : (passSetupOf b).valid = true ↔ PassSetupOk b := by
  have stale := num1_le b 6
  have lost := num2_le b 7
  have energy := num2_le b 10
  have starve := num1_le b 12
  have shortfall := num1_le b 13
  unfold PassSetup.valid PassSetupOk passSetupOf
  rw [decide_eq_true_eq]
  dsimp only
  omega

theorem passSetupBlock_ok {b : List Byte} (h : PassSetupOk b) (s : State) :
    passSetupBlock b s = State.accept { s with ranker := { s.ranker with setup := passSetupOf b } } := by
  unfold passSetupBlock parsePassSetup
  rw [if_pos ((passSetupOf_valid_iff b).mpr h)]

theorem passSetupBlock_bad {b : List Byte} (h : ¬PassSetupOk b) (s : State) :
    passSetupBlock b s = s.refuse .badField := by
  unfold passSetupBlock parsePassSetup
  rw [if_neg (mt (passSetupOf_valid_iff b).mp h)]

/-- Settles O21: each block replaces its setup, or refuses the body. -/
theorem setupsReplaced : Obligations.SetupsReplaced := by
  unfold Obligations.SetupsReplaced
  constructor
  · intro s f ht hk hl v ok
    have he : exec .trackSetup s = s.runRequest .trackSetup 11 anyState trackSetupBlock := rfl
    exact ⟨fun hok => State.runRequest_answers s f _ _ _ _ _ _ _ _ he ht hk hl rfl
        (trackSetupBlock_ok hok s) rfl rfl rfl,
      fun hbad => State.runRequest_refuses s f _ _ _ _ _ _ he ht hk hl rfl (trackSetupBlock_bad hbad s)⟩
  · intro s f ht hk hl v w ok
    have he : exec .passSetup s = s.runRequest .passSetup 14 anyState passSetupBlock := rfl
    exact ⟨fun hok => State.runRequest_answers s f _ _ _ _ _ _ _ _ he ht hk hl rfl
        (passSetupBlock_ok hok s) rfl rfl rfl,
      fun hbad => State.runRequest_refuses s f _ _ _ _ _ _ he ht hk hl rfl (passSetupBlock_bad hbad s)⟩

end Sys2Proof.Machine

/-! ### The filters and the fade detector (R26 to R30) -/

namespace Sys2Proof.Machine

/-! #### The filters -/

theorem trunc0_natCast (n k : Nat) : trunc0 (n : Int) k = (n / 2 ^ k : Nat) := by
  unfold trunc0
  rw [Int.ofNat_tdiv, Nat.cast_pow, Nat.cast_ofNat]

theorem trunc0_neg (x : Int) (k : Nat) : trunc0 (-x) k = -trunc0 x k := Int.neg_tdiv x _

/-- Toward a sample at or above it, an estimate rises by the share of the difference. -/
theorem moveToward_of_le {f s : Nat} (h : f ≤ s) (k : Nat) :
    moveToward f s k = f + (s - f) / 2 ^ k := by
  unfold moveToward
  rw [← Nat.cast_sub h, trunc0_natCast]
  generalize (s - f) / 2 ^ k = q
  omega

/-- Toward a sample at or below it, an estimate falls by the share of the difference. -/
theorem moveToward_of_ge {f s : Nat} (h : s ≤ f) (k : Nat) :
    moveToward f s k = f - (f - s) / 2 ^ k := by
  unfold moveToward
  rw [← neg_sub, ← Nat.cast_sub h, trunc0_neg, trunc0_natCast]
  generalize (f - s) / 2 ^ k = q
  omega

/-- An estimate never falls below 0, so that its move is the truncated quotient itself (R26). -/
theorem moveToward_cast (f s k : Nat) :
    (moveToward f s k : Int) = f + ((s : Int) - f).tdiv (2 ^ k) := by
  show _ = (f : Int) + trunc0 ((s : Int) - f) k
  rcases le_total f s with h | h
  · rw [moveToward_of_le h, ← Nat.cast_sub h, trunc0_natCast]
    exact Nat.cast_add _ _
  · have hq : (f - s) / 2 ^ k ≤ f - s := Nat.div_le_self _ _
    rw [moveToward_of_ge h, ← neg_sub, ← Nat.cast_sub h, trunc0_neg, trunc0_natCast]
    generalize (f - s) / 2 ^ k = q at hq ⊢
    omega

/-- A difference below 2^k moves nothing. -/
theorem moveToward_of_near {f s k : Nat} (h : ((s : Int) - f).natAbs < 2 ^ k) :
    moveToward f s k = f := by
  rcases le_total f s with hle | hle
  · rw [moveToward_of_le hle, Nat.div_eq_of_lt (by omega), Nat.add_zero]
  · rw [moveToward_of_ge hle, Nat.div_eq_of_lt (by omega), Nat.sub_zero]

/-- A move ends between the estimate and the sample. -/
theorem moveToward_between (f s k : Nat) :
    (f ≤ s → f ≤ moveToward f s k ∧ moveToward f s k ≤ s)
      ∧ (s ≤ f → s ≤ moveToward f s k ∧ moveToward f s k ≤ f) := by
  constructor
  · intro h
    have hq : (s - f) / 2 ^ k ≤ s - f := Nat.div_le_self _ _
    rw [moveToward_of_le h]
    generalize (s - f) / 2 ^ k = q at hq ⊢
    omega
  · intro h
    have hq : (f - s) / 2 ^ k ≤ f - s := Nat.div_le_self _ _
    rw [moveToward_of_ge h]
    generalize (f - s) / 2 ^ k = q at hq ⊢
    omega

/-- A difference of 2^k or more shrinks. -/
theorem moveToward_nearer {f s k : Nat} (h : 2 ^ k ≤ ((s : Int) - f).natAbs) :
    ((s : Int) - moveToward f s k).natAbs < ((s : Int) - f).natAbs := by
  obtain ⟨up, down⟩ := moveToward_between f s k
  have hk : 0 < 2 ^ k := Nat.two_pow_pos k
  rcases le_total f s with hle | hle
  · have hq : 0 < (s - f) / 2 ^ k := Nat.div_pos (by omega) hk
    have := up hle
    rw [moveToward_of_le hle] at this ⊢
    omega
  · have hq : 0 < (f - s) / 2 ^ k := Nat.div_pos (by omega) hk
    have := down hle
    rw [moveToward_of_ge hle] at this ⊢
    omega

/-- Under a steady input the estimate comes to rest, by induction on its distance from the sample. -/
theorem moveToward_rests (s k : Nat) : ∀ f : Nat, ∃ n rest, ∀ j, n ≤ j →
    Nat.iterate (fun f => moveToward f s k) j f = rest
      ∧ ((s : Int) - rest).natAbs ≤ 2 ^ k - 1 ∧ (f ≤ s → rest ≤ s) ∧ (s ≤ f → s ≤ rest) := by
  intro f
  induction hd : ((s : Int) - f).natAbs using Nat.strong_induction_on generalizing f with
  | h d ih =>
    subst hd
    by_cases hnear : ((s : Int) - f).natAbs < 2 ^ k
    · exact ⟨0, f, fun j _ => ⟨Function.iterate_fixed (f := fun f => moveToward f s k)
        (moveToward_of_near hnear) j,
        Nat.le_sub_one_of_lt hnear, id, id⟩⟩
    · obtain ⟨up, down⟩ := moveToward_between f s k
      obtain ⟨n, rest, hrest⟩ := ih _ (moveToward_nearer (Nat.not_lt.mp hnear)) _ rfl
      refine ⟨n + 1, rest, fun j hj => ?_⟩
      obtain ⟨i, rfl⟩ : ∃ i, j = i + 1 := ⟨j - 1, by omega⟩
      obtain ⟨reached, close, below, above⟩ := hrest i (by omega)
      exact ⟨reached, close, fun h => below (up h).2, fun h => above (down h).1⟩

/-- The detector does not move the fast estimate. -/
theorem Track.detect_f (t : Track) (c : TrackSetup) : (t.detect c).1.f = t.f := by
  unfold Track.detect
  split
  all_goals
    split
    · split <;> rfl
    · rfl

/-- At a settled track a sample moves the fast estimate by its filter alone. -/
theorem Track.takeSample_f {t : Track} (h : t.settle = 0) (c : TrackSetup) (s : Nat) :
    (t.takeSample c s).1.f = moveToward t.f s c.bf := by
  unfold Track.takeSample Track.ordinarySample
  rw [if_neg (by omega)]
  dsimp only
  split
  · exact Track.detect_f _ c
  · exact Track.detect_f _ c

/-- Settles O33: the move of one sample, and the rest under a steady input. -/
theorem fastFilterMovesTowardSample : Obligations.FastFilterMovesTowardSample := by
  unfold Obligations.FastFilterMovesTowardSample
  refine ⟨fun t c s hsettled => ⟨?_, moveToward_cast t.f s c.bf, fun hnear => ?_⟩,
    fun c s f _ => moveToward_rests s c.bf f⟩
  · rw [Track.takeSample_f hsettled]
    exact moveToward_cast t.f s c.bf
  · rw [Track.takeSample_f hsettled]
    exact moveToward_of_near hnear

/-! #### The fade detector, state by state (R28, R29) -/

theorem Track.detect_of_steady {t : Track} (h : t.fade = .steady) (c : TrackSetup) :
    t.detect c =
      if (t.l : Int) - t.f > 16 * c.tEnter then
        if c.dEnter = 1 then ({ t with fade := .faded, fadeSamples := 0, debounce := 0 }, true)
        else ({ t with fade := .entering, debounce := 1 }, false)
      else (t, false) := by
  unfold Track.detect
  rw [h]
  rfl

theorem Track.detect_of_entering {t : Track} (h : t.fade = .entering) (c : TrackSetup) :
    t.detect c =
      if (t.l : Int) - t.f > 16 * c.tEnter then
        if c.dEnter ≤ t.debounce + 1 then
          ({ t with fade := .faded, fadeSamples := 0, debounce := 0 }, true)
        else ({ t with debounce := t.debounce + 1 }, false)
      else ({ t with fade := .steady, debounce := 0 }, false) := by
  unfold Track.detect
  rw [h]
  rfl

/-- Up to its bound the fade sample count goes up by one, no higher than 255 (R29). -/
theorem bumpFadeSamples_eq {n : Nat} (h : n ≤ 255) : bumpFadeSamples n = min 255 (n + 1) := by
  unfold bumpFadeSamples
  split <;> omega

theorem Track.detect_of_faded {t : Track} (h : t.fade = .faded) (hn : t.fadeSamples ≤ 255)
    (c : TrackSetup) :
    t.detect c =
      if (t.l : Int) - t.f ≤ 16 * c.tExit then
        if c.dExit = 1 then ({ t with fade := .steady, debounce := 0, fadeSamples := 0 }, false)
        else
          ({ t with fade := .leaving, debounce := 1, fadeSamples := min 255 (t.fadeSamples + 1) }, false)
      else ({ t with fadeSamples := min 255 (t.fadeSamples + 1) }, false) := by
  unfold Track.detect
  rw [h, ← bumpFadeSamples_eq hn]
  rfl

theorem Track.detect_of_leaving {t : Track} (h : t.fade = .leaving) (hn : t.fadeSamples ≤ 255)
    (c : TrackSetup) :
    t.detect c =
      if (t.l : Int) - t.f ≤ 16 * c.tExit then
        if c.dExit ≤ t.debounce + 1 then
          ({ t with fade := .steady, debounce := 0, fadeSamples := 0 }, false)
        else
          ({ t with debounce := t.debounce + 1, fadeSamples := min 255 (t.fadeSamples + 1) }, false)
      else
        ({ t with fade := .faded, debounce := 0, fadeSamples := min 255 (t.fadeSamples + 1) }, false) := by
  unfold Track.detect
  rw [h, ← bumpFadeSamples_eq hn]
  rfl

/-- The fade timeout ends a fade, the baseline restarting at the fast estimate (R30). -/
theorem Track.ordinarySample_eq (t : Track) (c : TrackSetup) (s : Nat) :
    t.ordinarySample c s =
      let r := (t.filterSample c s).detect c
      if (r.1.fade = .faded ∨ r.1.fade = .leaving) ∧ c.fadeTimeout ≠ 0
          ∧ c.fadeTimeout < r.1.fadeSamples then
        ({ r.1 with
            l := r.1.f, fade := .steady, debounce := 0, fadeSamples := 0, settle := c.settle },
          r.2, true)
      else (r.1, r.2, false) := by
  unfold Track.ordinarySample Track.reseeds
  simp only [decide_eq_true_eq]
  rfl

/-- Settles O34: the baseline by its filter, each move by the equation of its state, the reseed. -/
theorem fadeDetectorFollowsRules : Obligations.FadeDetectorFollowsRules := by
  unfold Obligations.FadeDetectorFollowsRules
  refine ⟨?_, ?_, Track.ordinarySample_eq⟩
  · intro t c s t'
    refine ⟨fun h => ?_, fun h => if_neg h, rfl⟩
    have hl : t'.l = moveToward t.l t'.f c.bl := if_pos h
    rw [hl, moveToward_cast]
  · intro t c deep shallow more
    refine ⟨fun h hd => ?_, fun h hd h1 => ?_, fun h hd h1 => ?_, fun h hd => ?_, fun h hd hc => ?_,
      fun h hd hc => ?_, fun hn => ⟨fun h hs => ?_, fun h hs h1 => ?_, fun h hs h1 => ?_,
        fun h hs => ?_, fun h hs hc => ?_, fun h hs hc => ?_⟩⟩
    · rw [Track.detect_of_steady h, if_neg hd]
    · rw [Track.detect_of_steady h, if_pos hd, if_pos h1]
    · rw [Track.detect_of_steady h, if_pos hd, if_neg h1]
    · rw [Track.detect_of_entering h, if_neg hd]
    · rw [Track.detect_of_entering h, if_pos hd, if_pos hc]
    · rw [Track.detect_of_entering h, if_pos hd, if_neg (Nat.not_le.mpr hc)]
    · rw [Track.detect_of_faded h hn, if_neg hs]
    · rw [Track.detect_of_faded h hn, if_pos hs, if_pos h1]
    · rw [Track.detect_of_faded h hn, if_pos hs, if_neg h1]
    · rw [Track.detect_of_leaving h hn, if_neg hs]
    · rw [Track.detect_of_leaving h hn, if_pos hs, if_pos hc]
    · rw [Track.detect_of_leaving h hn, if_pos hs, if_neg (Nat.not_le.mpr hc)]

end Sys2Proof.Machine

/-! ### Effective quality and the rate step (R35 to R39) -/

namespace Sys2Proof.Machine

theorem Track.fresh_iff {t : Track} {now : U32} {limit : Nat} :
    t.fresh now limit = true ↔ (now - t.lastSample).toNat ≤ limit := decide_eq_true_iff

/-- A live, fresh anchor and a present reference move a stale track (R37). -/
theorem State.anchorMove_eq_some {s : State} {u a : Subscriber} {d : Direction} {limit ref : Nat}
    {h : Handle} (hanchor : u.anchor = some h) (ha : s.lookup h = some a)
    (hfresh : (a.tracks.get d).fresh s.ranker.passIndex limit = true)
    (href : (u.tracks.get d).aRef = some ref) :
    s.anchorMove u d limit
      = some (((((a.tracks.get d).f : Int) - ref) * u.anchorWeight).tdiv 16) := by
  unfold State.anchorMove
  rw [hanchor, Option.bind_some, ha, href]
  dsimp only
  rw [if_pos hfresh]

/-- A dead or stale anchor, or an absent reference, moves nothing (R37). -/
theorem State.anchorMove_eq_none {s : State} {u : Subscriber} {d : Direction} {limit : Nat}
    (h : ∀ a k, u.anchor = some k → s.lookup k = some a →
      limit < (s.ranker.passIndex - (a.tracks.get d).lastSample).toNat ∨ (u.tracks.get d).aRef = none) :
    s.anchorMove u d limit = none := by
  unfold State.anchorMove
  split
  · rename_i a ref ha href
    obtain ⟨k, hk, hlive⟩ := Option.bind_eq_some_iff.mp ha
    rcases h a k hk hlive with hstale | hnone
    · exact if_neg fun hfresh => Nat.not_le.mpr hstale (Track.fresh_iff.mp hfresh)
    · rw [hnone] at href
      cases href
  · rfl

/-- A fresh track is read as it stands (R36). -/
theorem State.rawQuality_of_fresh {s : State} {u : Subscriber} {d : Direction} {limit : Nat}
    (h : (s.ranker.passIndex - (u.tracks.get d).lastSample).toNat ≤ limit) (penalty : Nat) :
    s.rawQuality u d limit penalty = (u.tracks.get d).f + (u.tracks.get d).offset :=
  if_pos (Track.fresh_iff.mpr h)

/-- A stale track follows its anchor (R37). -/
theorem State.rawQuality_of_anchored {s : State} {u : Subscriber} {d : Direction} {limit : Nat} {m : Int}
    (h : limit < (s.ranker.passIndex - (u.tracks.get d).lastSample).toNat)
    (hm : s.anchorMove u d limit = some m) (penalty : Nat) :
    s.rawQuality u d limit penalty = (u.tracks.get d).f + (u.tracks.get d).offset + m := by
  unfold State.rawQuality
  dsimp only
  rw [if_neg fun hfresh => Nat.not_le.mpr h (Track.fresh_iff.mp hfresh), hm]

/-- A stale track that no anchor moves pays the penalty (R37). -/
theorem State.rawQuality_of_penalized {s : State} {u : Subscriber} {d : Direction} {limit : Nat}
    (h : limit < (s.ranker.passIndex - (u.tracks.get d).lastSample).toNat)
    (hm : s.anchorMove u d limit = none) (penalty : Nat) :
    s.rawQuality u d limit penalty
      = (u.tracks.get d).f + (u.tracks.get d).offset - 16 * (penalty : Int) := by
  unfold State.rawQuality
  dsimp only
  rw [if_neg fun hfresh => Nat.not_le.mpr h (Track.fresh_iff.mp hfresh), hm]

/-- The highest of the first `n` steps whose threshold is met, or 0 (R39). -/
def stepAmong (table : Vector RateStep 12) (e n : Nat) : Nat :=
  (List.range n).foldl
    (fun best i =>
      match table[i]? with
      | some st => if st.threshold * 16 ≤ e then i + 1 else best
      | none => best)
    0

theorem stepOf_eq_stepAmong (table : Vector RateStep 12) (e : Nat) :
    stepOf table e = stepAmong table e 12 := rfl

theorem stepAmong_succ (table : Vector RateStep 12) (e : Nat) (i : Fin 12) :
    stepAmong table e (i.val + 1)
      = if table[i].threshold * 16 ≤ e then i.val + 1 else stepAmong table e i := by
  unfold stepAmong
  rw [List.range_succ, List.foldl_append, List.foldl_cons, List.foldl_nil,
    Vector.getElem?_eq_getElem i.isLt]
  rfl

/-- The step chosen among the first `n` is one of them, no lower than any whose threshold is met, and if
it is not 0 its own is met. -/
theorem stepAmong_spec (table : Vector RateStep 12) (e : Nat) : ∀ n ≤ 12,
    stepAmong table e n ≤ n
      ∧ (∀ i : Fin 12, i.val < n → table[i].threshold * 16 ≤ e → i.val + 1 ≤ stepAmong table e n)
      ∧ (stepAmong table e n ≠ 0 →
          ∃ i : Fin 12, stepAmong table e n = i.val + 1 ∧ table[i].threshold * 16 ≤ e) := by
  intro n
  induction n with
  | zero => exact fun _ => ⟨le_rfl, fun i hi => absurd hi (Nat.not_lt_zero _), fun h => absurd rfl h⟩
  | succ n ih =>
    intro hn
    obtain ⟨bounded, highest, met⟩ := ih (Nat.le_of_succ_le hn)
    have chosen := stepAmong_succ table e ⟨n, hn⟩
    dsimp only at chosen
    split at chosen
    · rename_i hmet
      rw [chosen]
      exact ⟨le_rfl, fun i hi _ => hi, fun _ => ⟨⟨n, hn⟩, rfl, hmet⟩⟩
    · rename_i hmissed
      rw [chosen]
      refine ⟨Nat.le_succ_of_le bounded, fun i hi he => highest i ?_ he, met⟩
      refine Nat.lt_of_le_of_ne (Nat.le_of_lt_succ hi) fun hin => hmissed ?_
      subst hin
      exact he

/-- An EMERGENCY class has step 1 at least (R39). -/
theorem stepFor_eq (table : Vector RateStep 12) (kind : ClassKind) (e : Nat) :
    stepFor table kind e = if kind = .emergency ∧ stepOf table e = 0 then 1 else stepOf table e := by
  unfold stepFor
  by_cases hk : kind = .emergency
  · rw [if_pos hk]
    by_cases h0 : stepOf table e = 0
    · rw [if_pos ⟨hk, h0⟩, h0]
      rfl
    · rw [if_neg fun h => h0 h.2]
      exact max_eq_left (Nat.pos_of_ne_zero h0)
  · rw [if_neg hk, if_neg fun h => hk h.1]

/-- Settles O28: the quality by the path its track takes, the step as the highest of all twelve. -/
theorem effectiveQualityAndRateStep : Obligations.EffectiveQualityAndRateStep := by
  unfold Obligations.EffectiveQualityAndRateStep
  constructor
  · intro s u d limit penalty t age e
    have quality {x : Int} (hx : s.rawQuality u d limit penalty = x) :
        s.quality u d limit penalty = e x := congrArg e hx
    refine ⟨fun hfresh => quality (State.rawQuality_of_fresh hfresh penalty), fun hstale =>
      ⟨fun a ar ref hanchor ha hfresh href => quality ?_, fun hno => quality ?_⟩⟩
    · exact State.rawQuality_of_anchored hstale
        (State.anchorMove_eq_some hanchor ha (Track.fresh_iff.mpr hfresh) href) penalty
    · exact State.rawQuality_of_penalized hstale (State.anchorMove_eq_none hno) penalty
  · intro table kind e
    have spec := stepAmong_spec table e 12 le_rfl
    rw [← stepOf_eq_stepAmong] at spec
    obtain ⟨bounded, highest, met⟩ := spec
    exact ⟨bounded, fun i hi => highest i i.isLt hi, met, stepFor_eq table kind e⟩

end Sys2Proof.Machine

/-! ### The entry of a QUALITY_BATCH (R22 to R25, R31, R32) -/

namespace Sys2Proof.Machine

theorem PerDir.put_put {α : Type} (p : PerDir α) (d : Direction) (a b : α) :
    (p.put d a).put d b = p.put d b := by
  cases d <;> rfl

theorem qualityEntry_of_dead {e : List Byte} {s : State} (h : s.lookup (handleAtOffset e 0) = none) :
    qualityEntry e s = s.refuseEntry .unknownHandle := by
  unfold qualityEntry
  rw [h]

theorem qualityEntry_of_live {e : List Byte} {s : State} {u : Subscriber} {d : Direction}
    (hu : s.lookup (handleAtOffset e 0) = some u) (hd : num1 e 2 = dirCode d) :
    qualityEntry e s = s.takeSample (handleAtOffset e 0) u d (num1 e 3) := by
  unfold qualityEntry
  rw [hu, dirOf_eq_some_iff.mpr hd]

/-- The sampled track, its settle restarted for a LOST subscriber (R24). -/
theorem Subscriber.recover_track (u : Subscriber) (d : Direction) (c : TrackSetup) :
    (u.recover d c).tracks.get d
      = if u.life = .lost then { u.tracks.get d with settle := c.settle } else u.tracks.get d := by
  unfold Subscriber.recover
  split
  · exact PerDir.get_put_same _ _ _
  · rfl

/-- A recovered record whose sampled track is written: ACTIVE if it was LOST, with that track (R24). -/
theorem Subscriber.recover_putTrack (u : Subscriber) (d : Direction) (c : TrackSetup) (t : Track) :
    (u.recover d c).putTrack d t
      = { u with
          life := if u.life = .lost then .active else u.life
          tracks := u.tracks.put d t } := by
  unfold Subscriber.recover
  split
  · show Subscriber.mk .active _ _ _ _ _ _ _ _ ((u.tracks.put d _).put d t) _ _ = _
    rw [PerDir.put_put]
    rfl
  · rfl

/-- A sample on the settle path or on the ordinary path (R23, R25). -/
theorem Track.takeSample_eq (t : Track) (c : TrackSetup) (S : Nat) :
    t.takeSample c S =
      let moved : Nat := (t.f + ((S : Int) - t.f).tdiv 2).toNat
      if 0 < t.settle then
        ({ t with
            f := moved, l := moved, settle := t.settle - 1, fade := .steady, debounce := 0,
            fadeSamples := 0 }, false, false)
      else t.ordinarySample c S := rfl

/-- A sample writes one record, recovered and with its track recorded, and raises the events of the detector
(R23, R24, R31, R32). -/
theorem State.takeSample_eq (s : State) (h : Handle) (u : Subscriber) (d : Direction) (v : Nat) :
    s.takeSample h u d v =
      let r := ((u.recover d s.trackSetup).tracks.get d).takeSample s.trackSetup (clampQuality v * 16)
      { state :=
          s.putSub h.slot
            { u with
              life := if u.life = .lost then .active else u.life
              tracks := u.tracks.put d (r.1.recorded s.ranker.passIndex (s.anchorRef u d)) }
        reason := none
        events := s.fadeEvents d h u.cls r.2.1 r.2.2 } := by
  dsimp only
  rw [← Subscriber.recover_putTrack u d s.trackSetup]
  rfl

/-- Settles O32: the entry is a sample taken of the fields it carries, on the recovered track. -/
theorem qualityEntryIsASample : Obligations.QualityEntryIsASample := by
  unfold Obligations.QualityEntryIsASample
  intro s e h S
  refine ⟨qualityEntry_of_dead, ?_⟩
  intro u d hu hd tr moved filtered ref event
  have hfiltered : ((u.recover d s.trackSetup).tracks.get d).takeSample s.trackSetup
      (clampQuality (num1 e 3) * 16) = filtered := by
    rw [Subscriber.recover_track, Track.takeSample_eq]
    rfl
  rw [qualityEntry_of_live hu hd, State.takeSample_eq, hfiltered]
  rfl

end Sys2Proof.Machine

/-! ### The entry of an OUTCOME_BATCH (R33, R34, R55 to R58, R130) -/

namespace Sys2Proof.Machine

/-! #### The checks of R56 -/

section
variable {g : Demand} {n f : U16}

theorem Demand.judgeOutcome_of_old (h : 4 ≤ (n - f).toNat) : g.judgeOutcome (some n) f = some .stale :=
  if_pos h

theorem Demand.judgeOutcome_of_ungranted (hage : (n - f).toNat < 4)
    (h : ¬(g.ring[ringPos f].written = true ∧ g.ring[ringPos f].frame = f)) :
    g.judgeOutcome (some n) f = some .noGrant := by
  have hrecent : ¬frameAge n f ≥ 4 := Nat.not_le.mpr hage
  unfold Demand.judgeOutcome
  dsimp only
  rw [if_neg hrecent, if_pos]
  by_cases hw : g.ring[ringPos f].written = true
  · have hframe : g.ring[ringPos f].frame ≠ f := fun hf => h ⟨hw, hf⟩
    rw [bne_iff_ne.mpr hframe, Bool.or_true]
  · rw [Bool.not_eq_true] at hw
    rw [hw]
    rfl

/-- The written entry of a recent frame is judged by its outcome alone. -/
theorem Demand.judgeOutcome_of_granted (hage : (n - f).toNat < 4)
    (hw : g.ring[ringPos f].written = true) (hf : g.ring[ringPos f].frame = f) :
    g.judgeOutcome (some n) f
      = if g.ring[ringPos f].outcome = .pending then none else some .alreadyReported := by
  have hrecent : ¬frameAge n f ≥ 4 := Nat.not_le.mpr hage
  unfold Demand.judgeOutcome
  dsimp only
  rw [if_neg hrecent, hw, hf, bne_self_eq_false, if_neg (by decide)]
  by_cases ho : g.ring[ringPos f].outcome = .pending
  · rw [if_pos ho, ho]
    rfl
  · rw [if_neg ho, if_pos (bne_iff_ne.mpr ho)]

end

/-- A failed grant is added back when no report has been taken, or none of its frame or a later one (R57). -/
theorem Demand.addsBack_iff {g : Demand} {f : U16} :
    g.addsBack f = true
      ↔ g.stamp = none
          ∨ ∃ l, g.stamp = some l ∧ l ≠ f ∧ ¬(1 ≤ (l - f).toNat ∧ (l - f).toNat ≤ 32767) := by
  unfold Demand.addsBack later
  cases g.stamp with
  | none => exact iff_of_true rfl (.inl rfl)
  | some l =>
    dsimp only
    rw [Bool.not_eq_true', Bool.or_eq_false_iff, beq_eq_false_iff_ne, decide_eq_false_iff_not]
    constructor
    · exact fun h => .inr ⟨l, rfl, h⟩
    · rintro (hnone | ⟨k, hk, h⟩)
      · cases hnone
      · cases hk
        exact h

/-! #### What FAILED does to the offset (R34) -/

theorem Track.failedOffset_eq_floor_iff {t : Track} {c : TrackSetup} :
    t.failedOffset c = -640 ↔ t.offset - c.dn ≤ -640 := max_eq_right_iff

theorem Track.failed_poor_above {t : Track} {c : TrackSetup} (h : ¬t.offset - (c.dn : Int) ≤ -640) :
    (t.failed c).poor = t.poor := if_neg (mt Track.failedOffset_eq_floor_iff.mp h)

theorem Track.failed_poor_at_floor {t : Track} {c : TrackSetup} (h : t.offset - (c.dn : Int) ≤ -640) :
    (t.failed c).poor = if c.poorLimit ≤ t.poor + 1 then 0 else t.poor + 1 :=
  if_pos (Track.failedOffset_eq_floor_iff.mpr h)

theorem Track.failedLatches_iff {t : Track} {c : TrackSetup} :
    t.failedLatches c = true ↔ t.offset - c.dn ≤ -640 ∧ c.poorLimit ≤ t.poor + 1 := by
  unfold Track.failedLatches
  rw [decide_eq_true_eq, Track.failedOffset_eq_floor_iff]

/-! #### The entry -/

theorem outcomeEntry_of_dead {e : List Byte} {s : State} (h : s.lookup (handleAtOffset e 0) = none) :
    outcomeEntry e s = s.refuseEntry .unknownHandle := by
  unfold outcomeEntry
  rw [h]

section
variable {e : List Byte} {s : State} {u : Subscriber} {d : Direction}

theorem outcomeEntry_of_live {b : Bool} (hu : s.lookup (handleAtOffset e 0) = some u)
    (hd : num1 e 2 = dirCode d) (hb : failedOf (num1 e 5) = some b) :
    outcomeEntry e s = s.takeOutcome (handleAtOffset e 0) u d (frameAt e 3) b := by
  unfold outcomeEntry
  rw [hu, dirOf_eq_some_iff.mpr hd, hb]

/-- An entry that R56 refuses. -/
theorem outcomeEntry_refused {r : Reason} (hu : s.lookup (handleAtOffset e 0) = some u)
    (hd : num1 e 2 = dirCode d) (hcode : num1 e 5 ≤ 1)
    (hr : (u.demand.get d).judgeOutcome s.ranker.newest (frameAt e 3) = some r) :
    outcomeEntry e s = s.refuseEntry r := by
  obtain ⟨b, hb⟩ := Option.isSome_iff_exists.mp (failedOf_isSome_iff.mpr hcode)
  rw [outcomeEntry_of_live hu hd hb]
  unfold State.takeOutcome
  rw [hr]

theorem outcomeEntry_delivered (hu : s.lookup (handleAtOffset e 0) = some u)
    (hd : num1 e 2 = dirCode d) (hcode : num1 e 5 = 0)
    (hr : (u.demand.get d).judgeOutcome s.ranker.newest (frameAt e 3) = none) :
    outcomeEntry e s = s.takeDelivered (handleAtOffset e 0) u d (frameAt e 3) := by
  rw [outcomeEntry_of_live hu hd (flagOf_eq_false_iff.mpr hcode)]
  unfold State.takeOutcome
  rw [hr]
  rfl

theorem outcomeEntry_failed (hu : s.lookup (handleAtOffset e 0) = some u)
    (hd : num1 e 2 = dirCode d) (hcode : num1 e 5 = 1)
    (hr : (u.demand.get d).judgeOutcome s.ranker.newest (frameAt e 3) = none) :
    outcomeEntry e s = s.takeFailed (handleAtOffset e 0) u d (frameAt e 3) := by
  rw [outcomeEntry_of_live hu hd (flagOf_eq_true_iff.mpr hcode)]
  unfold State.takeOutcome
  rw [hr]
  rfl

end

/-- The record after a FAILED outcome (R57, R34). -/
def Subscriber.afterFailed (u : Subscriber) (d : Direction) (f : U16) (c : TrackSetup) : Subscriber :=
  (u.putDemand d ((u.demand.get d).failed f)).putTrack d ((u.tracks.get d).failed c)

theorem Subscriber.afterFailed_demand (u : Subscriber) (d : Direction) (f : U16) (c : TrackSetup) :
    (u.afterFailed d f c).demand.get d = (u.demand.get d).failed f := PerDir.get_put_same _ _ _

theorem Subscriber.afterFailed_track (u : Subscriber) (d : Direction) (f : U16) (c : TrackSetup) :
    (u.afterFailed d f c).tracks.get d = (u.tracks.get d).failed c := PerDir.get_put_same _ _ _

/-- Settles O36: the entry is refused by the first check of R56 that applies, or taken as DELIVERED or
FAILED. -/
theorem outcomeEntryFollowsChecks : Obligations.OutcomeEntryFollowsChecks := by
  unfold Obligations.OutcomeEntryFollowsChecks
  intro s e h F
  refine ⟨outcomeEntry_of_dead, ?_⟩
  intro u d hu hd hcode g x t
  have refused {r : Reason} (hr : g.judgeOutcome s.ranker.newest F = some r) :
      outcomeEntry e s = ⟨s, some r, []⟩ := outcomeEntry_refused hu hd hcode hr
  refine ⟨fun hnone => refused (by rw [hnone]; rfl), fun n hn => ?_⟩
  rw [hn] at refused
  refine ⟨fun hold => refused (Demand.judgeOutcome_of_old hold),
    fun hage hno => refused (Demand.judgeOutcome_of_ungranted hage hno), fun hage hw hf => ?_⟩
  have judged := Demand.judgeOutcome_of_granted hage hw hf
  have accepted (ho : x.outcome = .pending) : g.judgeOutcome s.ranker.newest F = none := by
    rw [hn, judged, if_pos ho]
  refine ⟨fun ho => refused (judged.trans (if_neg ho)),
    fun ho hdelivered => outcomeEntry_delivered hu hd hdelivered (accepted ho), ?_⟩
  intro ho hfailed floor latches counted
  have hdemand := u.afterFailed_demand d F s.trackSetup
  have htrack := u.afterFailed_track d F s.trackSetup
  have added : counted ↔ g.addsBack F = true := Demand.addsBack_iff.symm
  refine ⟨u.afterFailed d F s.trackSetup, ?_, fun hadds => ?_, fun hkeeps => ?_, fun hhigh => ?_,
    fun hlow => ?_, ?_⟩
  · rw [hdemand, htrack]
    rfl
  · rw [hdemand]
    exact if_pos (added.mp hadds)
  · rw [hdemand]
    exact if_neg (mt added.mpr hkeeps)
  · rw [htrack]
    exact Track.failed_poor_above hhigh
  · rw [htrack]
    exact Track.failed_poor_at_floor hlow
  · have latched : latches ↔ t.failedLatches s.trackSetup = true := Track.failedLatches_iff.symm
    refine ⟨(s.takeFailed h u d F).state, fun hl => if_pos (latched.mp hl),
      fun hl => if_neg (mt latched.mpr hl), ?_⟩
    rw [outcomeEntry_failed hu hd hfailed (accepted ho), ← hn]
    rfl

end Sys2Proof.Machine

/-! ### CONSTRUCT_SLOT at a subscriber that passes the lost check (R86 to R93) -/

namespace Sys2Proof.Machine

/-! #### The step -/

/-- The taking of a slot does not move construction on. -/
theorem State.constructAt_nextSlot (s : State) (n : Nat) :
    (s.constructAt n).ranker.nextSlot = s.ranker.nextSlot := by
  obtain ⟨views, lists, ho⟩ := s.constructAt_footprint n
  rw [ho.ranker]

/-- CONSTRUCT_SLOT takes the slot construction comes to, and moves past it (R84, R95). -/
theorem execConstructSlot_eq {s : State} (hheld : s.link.resetHeld = false)
    (hstage : s.ranker.stage = .constructing) (hslot : s.ranker.nextSlot < 96) :
    exec .constructSlot s = .next (s.constructAt s.ranker.nextSlot).pastSlot := by
  show execConstructSlot s = _
  unfold execConstructSlot State.pastSlot Config.slotCount
  rw [if_pos ⟨hstage, hheld⟩, State.constructAt_nextSlot]
  dsimp only
  by_cases hlast : s.ranker.nextSlot = 95
  · rw [if_pos hlast, if_pos (by omega)]
  · rw [if_neg hlast, if_neg (by omega)]

/-- No sample age of a direction exceeds the lost limit (R85). -/
theorem State.foundLost_eq_false {s : State} {u : Subscriber}
    (h : ∀ d, (s.ranker.passIndex - (u.tracks.get d).lastSample).toNat
      ≤ s.ranker.setupCopy.lostLimit) : s.foundLost u = false :=
  decide_eq_false (Nat.not_lt.mpr (max_le (h .dl) (h .ul)))

theorem State.constructAt_of_active {s : State} {n : Nat} {u : Subscriber}
    (hu : (s.slot n).sub = some u) (hlife : u.life = .active) (hfound : s.foundLost u = false) :
    s.constructAt n = s.considerSubscriber n u := by
  unfold State.constructAt
  rw [hu]
  dsimp only
  rw [hlife]
  dsimp only
  rw [hfound, if_neg Bool.false_ne_true]

/-! #### Credit, tier, key and metric -/

/-- The credit rule moves the credit of a GUARANTEED class alone (R86). -/
theorem creditRule_eq (kind : ClassKind) (g backlog : Nat) (credit : Int) :
    creditRule kind g backlog credit
      = if kind = .guaranteed then
          (if 0 < backlog then max (-8 * (g : Int)) (min (credit + g) (8 * g))
          else max (-8 * (g : Int)) (min credit g))
        else 0 := by
  cases kind <;> rfl

/-- The tier of a data candidate (R91). -/
theorem dataTier_eq (d : Direction) (kind : ClassKind) (credit : Int) :
    dataTier d kind credit
      = if kind = .emergency then 0
        else if kind = .guaranteed ∧ 0 < credit then (if d = .dl then 1 else 2)
        else if d = .dl then 2 else 3 := by
  cases kind with
  | emergency => rfl
  | guaranteed => cases d <;> simp [dataTier]
  | bestEffort => cases d <;> rfl

/-- The order key of a data candidate (R94). -/
theorem dataKey_eq (kind : ClassKind) (credit : Int) (m : Nat) :
    dataKey kind credit m
      = if kind = .emergency then .tie
        else if kind = .guaranteed ∧ 0 < credit then .credit credit
        else .metric m := by
  cases kind with
  | emergency => rfl
  | guaranteed => simp [dataKey]
  | bestEffort => rfl

/-- Fade defer holds back a FADED or LEAVING track (R93). -/
theorem deferred_eq (m : Nat) (fade : FadeState) (shift : Nat) :
    deferred m fade shift = if fade = .faded ∨ fade = .leaving then m / 2 ^ shift else m := by
  cases fade <;> rfl

/-- The snapshot of a data candidate, its fields by direction (R89). -/
theorem State.dataSnapshot_eq (s : State) (h : Handle) (u : Subscriber) (d : Direction) :
    s.dataSnapshot h u d =
      { handle := h, kind := .data, cls := u.cls
        tier := dataTier d (s.profileCopy u.cls).kind (u.service.get d).credit
        key :=
          dataKey (s.profileCopy u.cls).kind (u.service.get d).credit
            (deferred
              (metric (s.payloadOf (s.passStep u d)) (s.profileCopy u.cls).weight (u.service.get d).avg)
              (u.tracks.get d).fade (s.profileCopy u.cls).defer)
        rateStep := s.passStep u d, r := s.payloadOf (s.passStep u d), fade := (u.tracks.get d).fade
        backlog := (u.demand.get d).backlog, maxTiles := (s.profileCopy u.cls).maxTiles.get d
        minTiles := (s.profileCopy u.cls).minTiles
        dlCost := if d = .dl then u.dlCost else 0
        ulCap := if d = .dl then 0 else u.ulCap
        extended := decide (d = .ul ∧ s.ranker.setupCopy.guard < u.timing) } := by
  cases d <;> simp [State.dataSnapshot]

/-- A poll snapshot is the uplink data snapshot with step 1, no backlog, and the tier of polls (R89, R91). -/
theorem State.pollSnapshot_eq (s : State) (h : Handle) (u : Subscriber) :
    s.pollSnapshot h u
      = { s.dataSnapshot h u .ul with
          kind := .poll, tier := 1, key := .tie, rateStep := 1, r := s.payloadOf 1, backlog := 0 } := rfl

/-- The record with the credit of each direction replaced. -/
def Subscriber.withCredits (u : Subscriber) (credit : Direction → Int) : Subscriber :=
  { u with
    service :=
      ⟨{ u.service.dl with credit := credit .dl }, { u.service.ul with credit := credit .ul }⟩ }

theorem Subscriber.withCredits_service (u : Subscriber) (credit : Direction → Int) (d : Direction) :
    (u.withCredits credit).service.get d = { u.service.get d with credit := credit d } := by
  cases d <;> rfl

theorem State.applyCredit_eq (s : State) (u : Subscriber) :
    s.applyCredit u
      = u.withCredits fun d =>
          creditRule (s.profileCopy u.cls).kind ((s.profileCopy u.cls).rate.get d)
            (u.demand.get d).backlog (u.service.get d).credit := rfl

/-! #### The candidates -/

theorem State.dataCandidate_iff {s : State} {u : Subscriber} {d : Direction} :
    s.dataCandidate u d = true ↔ 0 < (u.demand.get d).backlog ∧ 1 ≤ s.passStep u d :=
  decide_eq_true_iff

theorem State.pollCandidate_iff {s : State} {u : Subscriber} :
    s.pollCandidate u = true
      ↔ (u.demand.get .ul).backlog = 0 ∧ 0 < (s.profileCopy u.cls).poll
          ∧ (s.profileCopy u.cls).poll
              ≤ (s.ranker.passIndex - u.service.ul.lastGrant.getD u.admitIndex).toNat :=
  decide_eq_true_iff.trans and_left_comm

/-- Settles O46: the slot is taken by `State.considerSubscriber` on the record with its new credits. -/
theorem constructSlotConsiders : Obligations.ConstructSlotConsiders := by
  unfold Obligations.ConstructSlotConsiders
  intro s u hheld hstage hslot hu hlife hages n h p backlog credit step metric guaranteed candidate poll
    data polled u'
  have credited : s.applyCredit u = u' :=
    congrArg u.withCredits
      (funext fun d => creditRule_eq p.kind (p.rate.get d) (backlog d) (u.service.get d).credit)
  have snapshot (d : Direction) : s.dataSnapshot h u' d = candidate d := by
    rw [State.dataSnapshot_eq, dataTier_eq, dataKey_eq, deferred_eq,
      show u'.service.get d = _ from u.withCredits_service credit d]
    rfl
  have polls : s.pollSnapshot h u' = poll := by
    rw [State.pollSnapshot_eq, snapshot]
  have downlink : s.candidatesOf h u' .dl = if data .dl then [candidate .dl] else [] := by
    rw [← snapshot]
    exact if_congr State.dataCandidate_iff rfl rfl
  have uplink : s.candidatesOf h u' .ul
      = if data .ul then [candidate .ul] else if polled then [poll] else [] := by
    rw [← snapshot, ← polls]
    exact if_congr State.dataCandidate_iff rfl (if_congr State.pollCandidate_iff rfl rfl)
  rw [execConstructSlot_eq hheld hstage hslot,
    State.constructAt_of_active hu hlife (State.foundLost_eq_false hages)]
  unfold State.considerSubscriber
  rw [credited]
  dsimp only
  rw [show s.handleAt s.ranker.nextSlot = h from rfl, downlink, uplink]
  rfl

end Sys2Proof.Machine

/-! ### The correction of a queue report, and the grants that enter it (R49, R51, R52, R54) -/

namespace Sys2Proof.Machine

/-- What an entry adds to the correction of a report stamped `stamp` when the newest frame is `n` (R52). -/
def HistoryEntry.corrects (n stamp : U16) (e : HistoryEntry) : Nat :=
  if e.valid n && later e.frame stamp then e.served else 0

theorem Demand.correction_eq (g : Demand) (n stamp : U16) :
    g.correction n stamp = (g.ring.toList.map (HistoryEntry.corrects n stamp)).sum := rfl

/-- The correction is the served bytes of the valid entries later than the stamp (R52). -/
theorem Demand.correction_eq_sum_filter (g : Demand) (n stamp : U16) :
    g.correction n stamp
      = ((g.ring.toList.filter fun e => e.valid n && later e.frame stamp).map
          HistoryEntry.served).sum := by
  have split := List.sum_map_ite (fun e : HistoryEntry => (e.valid n && later e.frame stamp) = true)
    HistoryEntry.served (fun _ => 0) g.ring.toList
  rw [List.map_const', List.sum_replicate, smul_zero, add_zero] at split
  simpa only [Bool.decide_eq_true] using (g.correction_eq n stamp).trans split

/-- Frame `a` is later than frame `b` (R1). -/
theorem later_iff {a b : U16} : later a b = true ↔ 1 ≤ (a - b).toNat ∧ (a - b).toNat ≤ 32767 :=
  decide_eq_true_iff

/-! #### The checks of R51 -/

section
variable {g : Demand} {n S : U16}

theorem Demand.judgeReport_of_future (h : later S n = true) :
    g.judgeReport (some n) S = .error .future := if_pos h

theorem Demand.judgeReport_of_old (hf : ¬later S n = true) (h : 4 ≤ (n - S).toNat) :
    g.judgeReport (some n) S = .error .stale :=
  (if_neg hf).trans (if_pos h)

/-- A report of a recent frame is judged by the last stamp alone. -/
theorem Demand.judgeReport_of_recent (hf : ¬later S n = true) (h : (n - S).toNat < 4) :
    g.judgeReport (some n) S
      = if ∃ l, g.stamp = some l ∧ 1 ≤ (l - S).toNat ∧ (l - S).toNat ≤ 32767 then .error .stale
        else .ok (g.correction n S) := by
  have hrecent : ¬frameAge n S ≥ 4 := Nat.not_le.mpr h
  unfold Demand.judgeReport
  dsimp only
  rw [if_neg hf, if_neg hrecent]
  refine if_congr ?_ rfl rfl
  cases g.stamp with
  | none => simp
  | some l => simp [earlier, later_iff]

theorem reportTooOld_iff : reportTooOld (some n) S = true ↔ ¬later S n = true ∧ 4 ≤ (n - S).toNat := by
  simp [reportTooOld, frameAge]

end

/-! #### The entry -/

theorem queueEntry_of_dead {e : List Byte} {s : State} (h : s.lookup (handleAtOffset e 0) = none) :
    queueEntry e s = s.refuseEntry .unknownHandle := by
  unfold queueEntry
  rw [h]

theorem queueEntry_of_live {e : List Byte} {s : State} {u : Subscriber} {d : Direction}
    (hu : s.lookup (handleAtOffset e 0) = some u) (hd : num1 e 2 = dirCode d) :
    queueEntry e s = s.takeReport (handleAtOffset e 0) u d (frameAt e 3) (num4 e 5) := by
  unfold queueEntry
  rw [hu, dirOf_eq_some_iff.mpr hd]

section
variable {s : State} {h : Handle} {u : Subscriber} {d : Direction} {newest : Option U16} {S : U16}
  {count : Nat}

/-- An accepted report corrects the saturated count and sets the stamp (R50, R52). -/
theorem State.takeReport_accepted {c : Nat} (hn : s.ranker.newest = newest)
    (hj : (u.demand.get d).judgeReport newest S = .ok c) :
    s.takeReport h u d S count
      = ⟨s.putSub h.slot
          (u.putDemand d ((u.demand.get d).report S (min count Config.maxBacklog) c)), none, []⟩ := by
  unfold State.takeReport
  rw [hn, hj]

/-- A refused report writes nothing, and raises REPORT_STALE when it is too old (R51). -/
theorem State.takeReport_refused {r : Reason} (hn : s.ranker.newest = newest)
    (hj : (u.demand.get d).judgeReport newest S = .error r) :
    s.takeReport h u d S count
      = ⟨s, some r,
          if reportTooOld newest S then
            [{ kind := .reportStale, dir := some d, who := some ⟨h, u.cls⟩, frame := newest }]
          else []⟩ := by
  unfold State.takeReport State.subjectEvent
  rw [hn, hj]

end

/-- Settles O35: the entry is refused by the first check of R51 that applies, or taken as a report with the
correction of R52. -/
theorem queueEntryFollowsChecks : Obligations.QueueEntryFollowsChecks := by
  unfold Obligations.QueueEntryFollowsChecks
  intro s e h S R
  refine ⟨queueEntry_of_dead, ?_⟩
  intro u d hu hd g accepted
  rw [queueEntry_of_live hu hd]
  refine ⟨fun hnone => State.takeReport_accepted hnone rfl, ?_⟩
  intro n hn future older
  refine ⟨fun hf => ?_, fun hf hage => ?_, fun hf hage ho => ?_, fun hf hage ho => ?_⟩ <;>
    rw [show future ↔ _ from later_iff.symm] at hf
  · rw [State.takeReport_refused hn (Demand.judgeReport_of_future hf),
      if_neg fun old => (reportTooOld_iff.mp old).1 hf]
  · rw [State.takeReport_refused hn (Demand.judgeReport_of_old hf hage),
      if_pos (reportTooOld_iff.mpr ⟨hf, hage⟩)]
  · have judged := (Demand.judgeReport_of_recent hf hage).trans (if_pos ho)
    rw [State.takeReport_refused hn judged,
      if_neg fun old => Nat.not_le.mpr hage (reportTooOld_iff.mp old).2]
  · have judged := (Demand.judgeReport_of_recent hf hage).trans (if_neg ho)
    rw [State.takeReport_accepted hn judged, Demand.correction_eq_sum_filter]
    rfl

/-! #### A grant write and the correction (R49, R54) -/

/-- A sum of numbers in which a 0 is replaced. -/
theorem sum_set_of_zero {l : List Nat} {i : Nat} (hi : i < l.length) (h0 : l[i] = 0) (a : Nat) :
    (l.set i a).sum = l.sum + a := by
  have before := List.sum_set l i l[i]
  have after := List.sum_set l i a
  rw [List.set_getElem_self] at before
  rw [if_pos hi] at before after
  omega

theorem HistoryEntry.corrects_of_unwritten {e : HistoryEntry} (h : e.written = false) (n stamp : U16) :
    e.corrects n stamp = 0 := by
  simp [HistoryEntry.corrects, HistoryEntry.valid, h]

theorem HistoryEntry.corrects_of_newest {e : HistoryEntry} {n : U16} (hw : e.written = true)
    (hf : e.frame = n) (stamp : U16) :
    e.corrects n stamp = if later n stamp then e.served else 0 := by
  simp [HistoryEntry.corrects, HistoryEntry.valid, frameAge, hw, hf]

/-- A grant written over an unwritten entry enters the correction of every report stamped before its frame
(R49, R52). -/
theorem Demand.correction_writeGrant {g : Demand} {n : U16} (h : g.ring[ringPos n].written = false)
    (stamp : U16) (kind : GrantKind) (tiles served : Nat) :
    (g.writeGrant n kind tiles served).correction n stamp
      = g.correction n stamp + if later n stamp then served else 0 := by
  have hi : (ringPos n).val < (g.ring.toList.map (HistoryEntry.corrects n stamp)).length := by simp
  have unwritten : (g.ring.toList.map (HistoryEntry.corrects n stamp))[(ringPos n).val] = 0 := by
    rw [List.getElem_map, Vector.getElem_toList]
    exact HistoryEntry.corrects_of_unwritten h n stamp
  rw [Demand.correction_eq, Demand.correction_eq]
  unfold Demand.writeGrant
  dsimp only
  rw [Vector.toList_set, List.map_set, sum_set_of_zero hi unwritten]
  exact congrArg (_ + ·) (HistoryEntry.corrects_of_newest rfl rfl stamp)

/-- A stamp at most 3 frames old is earlier than the newest frame unless it is that frame (R1). -/
theorem later_of_recent {n stamp : U16} (h : (n - stamp).toNat ≤ 3) :
    later n stamp = true ↔ stamp ≠ n := by
  rw [later_iff]
  bv_omega

/-- Settles O37: the grant's bytes come off once, with the grant write when the report comes first, and in the
correction when the grant does and the stamp is of an earlier frame. -/
theorem reportAndGrantInEitherOrder : Obligations.ReportAndGrantInEitherOrder := by
  unfold Obligations.ReportAndGrantInEitherOrder
  intro g n stamp kind tiles served count hfree hage C reportFirst granted grantFirst
  have corrected : grantFirst = count - (C + if later n stamp then served else 0) :=
    congrArg (count - ·) (Demand.correction_writeGrant hfree stamp kind tiles served)
  refine ⟨rfl, fun hne => ?_, fun he => ?_⟩
  · rw [corrected, if_pos ((later_of_recent hage).mpr hne), Nat.sub_add_eq]
  · rw [corrected, if_neg fun hl => (later_of_recent hage).mp hl he, Nat.add_zero]

end Sys2Proof.Machine

/-! ### SERVICE_ON (R60, R176) -/

namespace Sys2Proof.Machine

theorem serviceOnRule_none {s : State} (hd : s.link.device = .config)
    (ha : s.hasAlert .restarted = false) : serviceOnRule s = none :=
  if_neg (by rw [hd, ha]; simp)

/-- Settles O17: the block forgets in every record of the table, slot by slot. -/
theorem serviceOnEntersService : Obligations.ServiceOnEntersService := by
  unfold Obligations.ServiceOnEntersService
  intro s f ht hk hb hd ha forget
  have answers : s.AnswersWith .serviceOn f .ok .empty (serviceOnBlock f.body s).state :=
    State.runRequest_answers s f .serviceOn .serviceOn 0 serviceOnRule serviceOnBlock _ .ok .empty rfl ht
      hk (by rw [hb]; rfl) (serviceOnRule_none hd ha) rfl rfl rfl rfl
  exact ⟨_, answers, rfl, s.slot_mapSubs Subscriber.forget⟩

end Sys2Proof.Machine

/-! ### FRAME_MARK with no pass in flight (R48, R81 to R83, R139, R144) -/

namespace Sys2Proof.Machine

/-! #### The judgement of a frame (R81) -/

section
variable {n F : U16}

theorem judgeFrame_of_newest : judgeFrame (some F) F = some .duplicateFrame := if_pos rfl

theorem judgeFrame_of_later (h : later F n = true) : judgeFrame (some n) F = none := by
  have hne : F ≠ n := by
    rintro rfl
    simp [later_iff] at h
  exact (if_neg hne).trans (if_pos h)

theorem judgeFrame_of_not_later (hne : F ≠ n) (h : ¬later F n = true) :
    judgeFrame (some n) F = some .outOfOrderFrame :=
  (if_neg hne).trans (if_neg h)

theorem skipsFrames_iff :
    skipsFrames (some n) F = true ↔ 2 ≤ (F - n).toNat ∧ (F - n).toNat ≤ 32767 := by
  unfold skipsFrames
  dsimp only
  rw [Bool.and_eq_true, later_iff, decide_eq_true_iff]
  omega

end

/-! #### The start of a pass (R83, R48, R139) -/

/-- The state with the decoding under way replaced. -/
def State.withDecoding (s : State) (w : Decoding) : State :=
  { s with link := { s.link with decoding := w } }

theorem State.inner_withDecoding (s : State) (w : Decoding) : (s.withDecoding w).inner = s.inner := rfl

theorem State.offerGeneral_withDecoding (s : State) (w : Decoding) (n : GeneralNotice) :
    (s.withDecoding w).offerGeneral n = (s.offerGeneral n).withDecoding w := by
  unfold State.offerGeneral
  rw [apply_ite (State.withDecoding · w)]
  rfl

/-- Latching an alert does not read the decoding under way. -/
theorem State.latchDevice_withDecoding (s : State) (w : Decoding) (a : DeviceAlert)
    (frame : Option U16) :
    (s.withDecoding w).latchDevice a frame = (s.latchDevice a frame).withDecoding w := by
  unfold State.latchDevice
  rw [apply_ite (State.withDecoding · w), apply_ite (State.withDecoding · w),
    ← State.offerGeneral_withDecoding]
  rfl

/-- The purge keeps what is SENDING or of the new pass (R139). -/
theorem GrantEntry.not_purged (p : U32) (e : GrantEntry) :
    (!e.purged p) = (e.mark == .sending || e.passIndex == p) := by
  unfold GrantEntry.purged
  rw [Bool.not_and, bne, Bool.not_not]
  cases e.mark <;> rfl

/-- The state after a pass start for frame `F`: the fresh pass, and MAP_PURGED latched when the purge removed
anything (R83, R139). -/
def State.markedStart (s : State) (F : U16) : State :=
  if s.notices.grants.any fun e => e.mark == .waiting && e.passIndex != s.ranker.passIndex + 1#32 then
    (s.freshPass F).latchDevice .mapPurged (some F)
  else s.freshPass F

theorem State.startPass_eq (s : State) (F : U16) : s.startPass F = s.markedStart F := by
  have kept : (fun e : GrantEntry => !e.purged (s.ranker.passIndex + 1#32))
      = fun e => e.mark == .sending || e.passIndex == s.ranker.passIndex + 1#32 :=
    funext (GrantEntry.not_purged _)
  unfold State.markedStart State.freshPass
  rw [← kept]
  rfl

theorem State.markedStart_withDecoding (s : State) (w : Decoding) (F : U16) :
    (s.withDecoding w).markedStart F = (s.markedStart F).withDecoding w := by
  unfold State.markedStart
  rw [apply_ite (State.withDecoding · w), ← State.latchDevice_withDecoding]
  rfl

/-! #### The decoding -/

theorem State.execFrameMark_of_takesUp {s : State} {f : Frame} (h : s.TakesUp f)
    (hk : f.kind = 0x18#8) : exec .frameMark s = .next (s.decodeFrameMark f) := by
  show execFrameMark s = _
  unfold execFrameMark
  rw [State.takeUp_of_takesUp s f (fun g => g.kind == Request.frameMark.code) h (beq_iff_eq.mpr hk)]

section
variable {s : State} {f : Frame} (hl : f.body.length = 2) (hd : s.link.device = .service)
include hl hd

/-- A frame that R81 turns away. -/
theorem State.decodeFrameMark_refused {r : Result}
    (hj : judgeFrame s.ranker.newest (frameAt f.body 0) = some r) :
    s.decodeFrameMark f = s.joinAnswer f r .empty := by
  unfold State.decodeFrameMark
  rw [if_neg (not_not.mpr hl), if_neg (by rw [hd]; exact DeviceState.noConfusion), hj]

/-- A frame that R81 accepts with no pass in flight starts its pass at once (R82). -/
theorem State.decodeFrameMark_starts (hj : judgeFrame s.ranker.newest (frameAt f.body 0) = none)
    (hs : s.ranker.stage = .idle) :
    s.decodeFrameMark f
      = (s.withDecoding (.frameMark (frameAt f.body 0))).startMarkedPass (frameAt f.body 0) := by
  unfold State.decodeFrameMark
  rw [if_neg (not_not.mpr hl), if_neg (by rw [hd]; exact DeviceState.noConfusion), hj]
  dsimp only
  unfold State.deferUntilIdle
  rw [hs]
  rfl

end

/-- The answered frame may be said of any state that differs from the block's in its answering side alone. -/
theorem State.AnsweredAs.congr {s t a b : State} {f : Frame} {r : Result} {d : AnswerData}
    (h : s.AnsweredAs t f r d a) (hi : a.inner = b.inner) (hn : a.notices = b.notices) :
    s.AnsweredAs t f r d b := by
  obtain ⟨answered, inner, notices⟩ := h
  exact ⟨answered, inner.trans hi, fun busy => (notices busy).trans hn⟩

/-- Starting a pass changes the link in its alerts alone. -/
theorem State.startPass_link (s : State) (F : U16) :
    (s.startPass F).link = { s.link with alerts := (s.startPass F).link.alerts } :=
  (State.onlyTable_startPass s F).link

theorem State.answerHead_eq {s : State} {f : Frame} (h : s.link.accepted.head? = some f) (r : Result) :
    s.answerHead r = s.joinAnswer f r .empty := by
  obtain ⟨rest, hrest⟩ := List.head?_eq_some_iff.mp h
  unfold State.answerHead
  rw [hrest]

/-- The taking of an accepted FRAME_MARK: the answer OK on the started pass, and then FRAME_GAP when the frame
skips others (R81 to R83, R144). -/
theorem State.startMarkedPass_eq {s : State} {f : Frame} (h : s.TakesUp f) (F : U16) :
    (s.withDecoding (.frameMark F)).startMarkedPass F
      = let x := ((s.withDecoding (.frameMark F)).startPass F).joinAnswer f .ok .empty
        if skipsFrames s.ranker.newest F then (x.takeEvent (frameGapEvent F) none).arbitrate else x := by
  obtain ⟨-, -, -, -, head⟩ := h
  have oldest : ((s.withDecoding (.frameMark F)).startPass F).link.accepted.head? = some f := by
    rw [State.startPass_link]
    exact head
  unfold State.startMarkedPass
  rw [State.answerHead_eq oldest]
  rfl

/-- That answer, on the link the frame was taken up from. -/
theorem State.answeredAs_markedStart (s : State) (f : Frame) (F : U16) :
    s.AnsweredAs (((s.withDecoding (.frameMark F)).startPass F).joinAnswer f .ok .empty) f .ok .empty
      (s.markedStart F) := by
  have link := (s.withDecoding (.frameMark F)).startPass_link F
  have answered := State.answeredAs_joinAnswer (s := s) f .ok .empty (by rw [link]; rfl)
    (by rw [link]; rfl) (fun _ => by rw [link]; rfl)
  have started := (State.startPass_eq _ F).trans (s.markedStart_withDecoding (.frameMark F) F)
  refine answered.congr ?_ ?_
  · rw [started, State.inner_withDecoding]
  · rw [started]
    rfl

/-- Settles O29: the frame is judged, and an accepted one is answered on the started pass, before the FRAME_GAP
event when it skips frames. -/
theorem frameMarkStartsPass : Obligations.FrameMarkStartsPass := by
  unfold Obligations.FrameMarkStartsPass
  intro s f ht hk hl hd F
  have refused {r : Result} (hj : judgeFrame s.ranker.newest F = some r) : s.Refuses .frameMark f r :=
    State.refuses_of_exec s _ f r
      (by rw [State.execFrameMark_of_takesUp ht hk, State.decodeFrameMark_refused hl hd hj])
  refine ⟨fun hn => refused (hn ▸ judgeFrame_of_newest), fun n hn hne hold => refused ?_,
    fun hlater hs => ?_⟩
  · rw [hn]
    exact judgeFrame_of_not_later hne fun hl => Nat.not_le.mpr hold (later_iff.mp hl).2
  have judged : judgeFrame s.ranker.newest F = none := by
    cases hn : s.ranker.newest with
    | none => rfl
    | some n => exact judgeFrame_of_later (later_iff.mpr (hlater n hn))
  refine ⟨_, by rw [State.execFrameMark_of_takesUp ht hk, State.decodeFrameMark_starts hl hd judged hs],
    _, s.answeredAs_markedStart f F, ?_, ?_⟩
  · intro hnext
    rw [State.startMarkedPass_eq ht]
    refine if_neg ?_
    rcases hnext with hn | ⟨n, hn, hone⟩
    · rw [hn]
      exact Bool.false_ne_true
    · rw [hn, skipsFrames_iff, show (F - n).toNat = 1 from hone]
      decide
  · intro n hn htwo hhalf
    rw [State.startMarkedPass_eq ht, hn]
    exact if_pos (skipsFrames_iff.mpr ⟨htwo, hhalf⟩)

end Sys2Proof.Machine

/-! ### Stores of a fixed length, read by position -/

namespace Sys2Proof.Machine

/-- A store listed by position; the default `d` stands for no position of it. -/
theorem toList_eq_map_range {α : Type} {n : Nat} (v : Vector α n) (d : α) :
    v.toList = (List.range n).map fun i => (v[i]?).getD d := by
  refine List.ext_getElem (by simp) fun i hv _ => ?_
  have hi : i < n := by simpa using hv
  simp [hi]

end Sys2Proof.Machine

/-! ### STATUS and the status summary (R76, R170, R172) -/

namespace Sys2Proof.Machine

theorem State.slots_toList (s : State) : s.slots.toList = (List.range 96).map s.slot :=
  toList_eq_map_range s.slots resetSlot

/-- The live subscribers counted slot by slot (R2). -/
theorem State.liveCount_eq (s : State) :
    s.liveCount = (List.range 96).countP fun n => (s.slot n).sub.isSome := by
  unfold State.liveCount
  rw [State.slots_toList, List.countP_map]
  rfl

/-- The subscriber alert bit of the summary, said of the slots (R172). -/
theorem State.subscriberAlert_iff (s : State) :
    s.subscriberAlert = true ↔ ∃ n u, (s.slot n).sub = some u ∧ u.alerts ≠ 0#7 := by
  unfold State.subscriberAlert
  rw [State.slots_toList, List.any_map, List.any_eq_true]
  constructor
  · rintro ⟨n, -, h⟩
    dsimp only [Function.comp_apply] at h
    split at h
    · rename_i u hu
      exact ⟨n, u, hu, of_decide_eq_true h⟩
    · cases h
  · rintro ⟨n, u, hu, ha⟩
    refine ⟨n, List.mem_range.mpr (s.slot_lt_of_sub n u hu), ?_⟩
    dsimp only [Function.comp_apply]
    rw [hu]
    exact decide_eq_true ha

/-- Settles O15: STATUS is accepted as the state stands, and the summary's count and bit are read slot by
slot. -/
theorem statusShowsSummary : Obligations.StatusShowsSummary := by
  unfold Obligations.StatusShowsSummary
  refine ⟨fun s f ht hk hb => ?_, fun s => ?_⟩
  · exact State.runRequest_answers s f .status .status 0 anyState statusBlock s .ok .empty rfl ht hk
      (by rw [hb]; rfl) rfl rfl rfl rfl rfl
  · refine ⟨rfl, decide_eq_true_iff, rfl, rfl, fun c hc => ?_, rfl, s.liveCount_eq, rfl,
      s.subscriberAlert_iff⟩
    show (s.energy.table.carriers[s.energy.segment - 1]?).getD 1 = c
    rw [hc]
    rfl

end Sys2Proof.Machine

/-! ### The energy table (R63, R64) -/

namespace Sys2Proof.Machine

theorem strictlyDecreasing_iff (xs : List Nat) : strictlyDecreasing xs = true ↔ xs.IsChain (· > ·) := by
  induction xs with
  | nil => exact iff_of_true rfl .nil
  | cons a xs ih =>
    cases xs with
    | nil => exact iff_of_true rfl (.singleton a)
    | cons b rest =>
      show (decide (b < a) && strictlyDecreasing (b :: rest)) = true ↔ _
      rw [Bool.and_eq_true, decide_eq_true_eq, ih, List.isChain_cons_cons]

theorem nonIncreasing_iff (xs : List Nat) : nonIncreasing xs = true ↔ xs.IsChain (· ≥ ·) := by
  induction xs with
  | nil => exact iff_of_true rfl .nil
  | cons a xs ih =>
    cases xs with
    | nil => exact iff_of_true rfl (.singleton a)
    | cons b rest =>
      show (decide (b ≤ a) && nonIncreasing (b :: rest)) = true ↔ _
      rw [Bool.and_eq_true, decide_eq_true_eq, ih, List.isChain_cons_cons]

theorem EnergyTable.bounds_toList (t : EnergyTable) :
    t.bounds.toList = (List.range 4).map fun i => t.bound (i + 1) := toList_eq_map_range t.bounds 0

theorem EnergyTable.budgets_toList (t : EnergyTable) :
    t.budgets.toList = (List.range 5).map fun i => t.budget (i + 1) := toList_eq_map_range t.budgets 0

theorem EnergyTable.carriers_toList (t : EnergyTable) :
    t.carriers.toList = (List.range 5).map fun i => t.carrier (i + 1) :=
  toList_eq_map_range t.carriers 1

/-- What R63 asks of an energy table, by the numbers of its boundaries and segments. -/
structure EnergyTable.Acceptable (t : EnergyTable) : Prop where
  bounds : ∀ i < 4, 1 ≤ t.bound (i + 1) ∧ t.bound (i + 1) ≤ 254
  bounds_fall : ∀ i < 3, t.bound (i + 2) < t.bound (i + 1)
  hysteresis : t.hysteresis ≤ 31
  budgets : ∀ i < 5, t.budget (i + 1) ≤ 65535
  budgets_fall : ∀ i < 4, t.budget (i + 2) ≤ t.budget (i + 1)
  carriers : ∀ i < 5, t.carrier (i + 1) = 1 ∨ t.carrier (i + 1) = 2
  carriers_fall : ∀ i < 4, t.carrier (i + 2) ≤ t.carrier (i + 1)
  slew : 1 ≤ t.slew ∧ t.slew ≤ 65535

theorem EnergyTable.valid_iff (t : EnergyTable) : t.valid = true ↔ t.Acceptable := by
  unfold EnergyTable.valid
  rw [t.bounds_toList, t.budgets_toList, t.carriers_toList]
  simp only [Bool.and_eq_true, strictlyDecreasing_iff, nonIncreasing_iff, List.isChain_map,
    List.isChain_range_succ, List.all_map, List.all_eq_true, List.mem_range, Function.comp_apply,
    decide_eq_true_eq]
  exact ⟨fun ⟨⟨⟨⟨⟨⟨⟨bounds, falling⟩, hyst⟩, budgets⟩, less⟩, carriers⟩, fewer⟩, slew⟩ =>
      ⟨bounds, falling, hyst, budgets, less, carriers, fewer, slew⟩,
    fun h => ⟨⟨⟨⟨⟨⟨⟨h.bounds, h.bounds_fall⟩, h.hysteresis⟩, h.budgets⟩, h.budgets_fall⟩, h.carriers⟩,
      h.carriers_fall⟩, h.slew⟩⟩

/-! #### ENERGY_TABLE -/

/-- What R63 asks of the body of an ENERGY_TABLE. -/
def EnergyTableOk (b : List Byte) : Prop :=
  (∀ i < 4, 1 ≤ num1 b i ∧ num1 b i ≤ 254) ∧ (∀ i < 3, num1 b (i + 1) < num1 b i) ∧ num1 b 4 ≤ 31
    ∧ (∀ i < 4, num2 b (5 + 2 * (i + 1)) ≤ num2 b (5 + 2 * i))
    ∧ (∀ i < 5, num1 b (15 + i) = 1 ∨ num1 b (15 + i) = 2)
    ∧ (∀ i < 4, num1 b (15 + i + 1) ≤ num1 b (15 + i)) ∧ 1 ≤ num2 b 20 ∧ ∀ i < 4, num1 b (22 + i) ≤ 1

/-- The energy table a body carries, its flags read (R188). -/
def energyTableIn (b : List Byte) : EnergyTable :=
  energyTableOf b (decide (num1 b 22 = 1)) (decide (num1 b 23 = 1)) (decide (num1 b 24 = 1))
    (decide (num1 b 25 = 1))

section
variable (b : List Byte) {i : Nat}

theorem energyTableIn_bound (hi : i < 4) : (energyTableIn b).bound (i + 1) = num1 b i := by
  simp [EnergyTable.bound, energyTableIn, energyTableOf, hi]

theorem energyTableIn_budget (hi : i < 5) : (energyTableIn b).budget (i + 1) = num2 b (5 + 2 * i) := by
  simp [EnergyTable.budget, energyTableIn, energyTableOf, hi]

theorem energyTableIn_carrier (hi : i < 5) : (energyTableIn b).carrier (i + 1) = num1 b (15 + i) := by
  simp [EnergyTable.carrier, energyTableIn, energyTableOf, hi]

end

/-- A body whose flags are flags carries an acceptable table when its numbers pass R63's checks. -/
theorem energyTableOk_iff (b : List Byte) :
    EnergyTableOk b ↔ (energyTableIn b).valid = true ∧ ∀ i < 4, num1 b (22 + i) ≤ 1 := by
  have bound {i : Nat} (hi : i < 4) := energyTableIn_bound b hi
  have budget {i : Nat} (hi : i < 5) := energyTableIn_budget b hi
  have carrier {i : Nat} (hi : i < 5) := energyTableIn_carrier b hi
  rw [EnergyTable.valid_iff]
  constructor
  · rintro ⟨bounds, falling, hyst, less, carriers, fewer, slew, flags⟩
    refine ⟨⟨fun i hi => ?_, fun i hi => ?_, hyst, fun i hi => ?_, fun i hi => ?_, fun i hi => ?_,
      fun i hi => ?_, slew, num2_le b 20⟩, flags⟩
    · rw [bound hi]
      exact bounds i hi
    · rw [bound (i := i + 1) (by omega), bound (by omega)]
      exact falling i hi
    · rw [budget hi]
      exact num2_le b _
    · rw [budget (i := i + 1) (by omega), budget (by omega)]
      exact less i hi
    · rw [carrier hi]
      exact carriers i hi
    · rw [carrier (i := i + 1) (by omega), carrier (by omega)]
      exact fewer i hi
  · rintro ⟨h, flags⟩
    refine ⟨fun i hi => ?_, fun i hi => ?_, h.hysteresis, fun i hi => ?_, fun i hi => ?_, fun i hi => ?_,
      h.slew.1, flags⟩
    · rw [← bound hi]
      exact h.bounds i hi
    · rw [← bound (i := i + 1) (by omega), ← bound (by omega)]
      exact h.bounds_fall i hi
    · rw [← budget (i := i + 1) (by omega), ← budget (by omega)]
      exact h.budgets_fall i hi
    · rw [← carrier hi]
      exact h.carriers i hi
    · rw [add_assoc, ← carrier (i := i + 1) (by omega), ← carrier (by omega)]
      exact h.carriers_fall i hi

theorem flagOf_eq_some_iff {n : Nat} {p : Bool} : flagOf n = some p ↔ n ≤ 1 ∧ p = decide (n = 1) := by
  cases p with
  | false =>
    rw [flagOf_eq_false_iff]
    simp only [Bool.false_eq, decide_eq_false_iff_not]
    omega
  | true =>
    rw [flagOf_eq_true_iff]
    simp only [Bool.true_eq, decide_eq_true_eq]
    omega

/-- A body is read as a table just when R63 accepts it, and then as the table it carries. -/
theorem parseEnergyTable_eq_some_iff {b : List Byte} {t : EnergyTable} :
    parseEnergyTable b = some t ↔ EnergyTableOk b ∧ t = energyTableIn b := by
  rw [energyTableOk_iff]
  unfold parseEnergyTable
  constructor
  · intro h
    split at h
    · rename_i rise fall graded lift h22 h23 h24 h25
      obtain ⟨l22, rfl⟩ := flagOf_eq_some_iff.mp h22
      obtain ⟨l23, rfl⟩ := flagOf_eq_some_iff.mp h23
      obtain ⟨l24, rfl⟩ := flagOf_eq_some_iff.mp h24
      obtain ⟨l25, rfl⟩ := flagOf_eq_some_iff.mp h25
      split at h
      · rename_i hv
        refine ⟨⟨hv, fun i hi => ?_⟩, (Option.some.inj h).symm⟩
        match i, hi with
        | 0, _ => exact l22
        | 1, _ => exact l23
        | 2, _ => exact l24
        | 3, _ => exact l25
      · cases h
    · cases h
  · rintro ⟨⟨hv, flags⟩, rfl⟩
    have flag (i : Nat) (hi : i < 4) := flagOf_eq_some_iff.mpr ⟨flags i hi, rfl⟩
    rw [flag 0 (by decide), flag 1 (by decide), flag 2 (by decide), flag 3 (by decide)]
    exact if_pos hv

theorem parseEnergyTable_eq_none {b : List Byte} (h : ¬EnergyTableOk b) : parseEnergyTable b = none :=
  Option.eq_none_iff_forall_ne_some.mpr fun _ ht => h (parseEnergyTable_eq_some_iff.mp ht).1

theorem energyTableBlock_ok {b : List Byte} (h : EnergyTableOk b) (s : State) :
    energyTableBlock b s
      = State.accept { s with energy := { s.energy with table := energyTableIn b } } := by
  unfold energyTableBlock
  rw [parseEnergyTable_eq_some_iff.mpr ⟨h, rfl⟩]

theorem energyTableBlock_bad {b : List Byte} (h : ¬EnergyTableOk b) (s : State) :
    energyTableBlock b s = s.refuse .badField := by
  unfold energyTableBlock
  rw [parseEnergyTable_eq_none h]

/-- Settles O22: the block replaces the table by the one the body carries, or refuses the body. -/
theorem energyTableReplaced : Obligations.EnergyTableReplaced := by
  unfold Obligations.EnergyTableReplaced
  intro s f ht hk hl v budget ok
  have he : exec .energyTable s = s.runRequest .energyTable 26 anyState energyTableBlock := rfl
  exact ⟨fun hok => State.runRequest_answers s f _ _ _ _ _ _ _ _ he ht hk hl rfl
      (energyTableBlock_ok hok s) rfl rfl rfl,
    fun hbad => State.runRequest_refuses s f _ _ _ _ _ _ he ht hk hl rfl (energyTableBlock_bad hbad s)⟩

end Sys2Proof.Machine

/-! ### The segment map and ENERGY_REPORT (R65, R66) -/

namespace Sys2Proof.Machine

/-- The segment map counts the boundaries that stand at or above the reading (R65). -/
theorem EnergyTable.segmentOf_eq (t : EnergyTable) (y : Nat) :
    t.segmentOf y = 1 + (List.range 4).countP fun k => decide (min y 255 ≤ t.bound (k + 1)) := by
  unfold EnergyTable.segmentOf
  rw [t.bounds_toList, List.countP_map]
  rfl

/-- A reading is taken as 255 at most (R65). -/
theorem EnergyTable.segmentOf_min (t : EnergyTable) (y : Nat) :
    t.segmentOf y = t.segmentOf (min y 255) := by
  rw [t.segmentOf_eq, t.segmentOf_eq, min_assoc, min_self]

/-- A higher reading lies in no higher segment. -/
theorem EnergyTable.segmentOf_antitone (t : EnergyTable) {y z : Nat} (h : y ≤ z) :
    t.segmentOf z ≤ t.segmentOf y := by
  rw [t.segmentOf_eq, t.segmentOf_eq]
  refine Nat.add_le_add_left (List.countP_mono_left fun k _ hk => ?_) 1
  rw [decide_eq_true_eq] at hk ⊢
  omega

section
variable {t : EnergyTable} (h : t.Acceptable)
include h

/-- A boundary of a higher number stands no higher. -/
theorem EnergyTable.Acceptable.bound_le {j k : Nat} (hj : 1 ≤ j) (hjk : j ≤ k) (hk : k ≤ 4) :
    t.bound k ≤ t.bound j := by
  induction hjk with
  | refl => exact le_rfl
  | @step m hm ih =>
    have : j ≤ m := hm
    have fall := h.bounds_fall (m - 1) (by omega)
    rw [show m - 1 + 2 = m + 1 by omega, show m - 1 + 1 = m by omega] at fall
    exact fall.le.trans (ih (by omega))

/-- A reading above boundary k + 1, and not above boundary k, lies in segment 1 + k (R65). -/
theorem EnergyTable.Acceptable.segmentOf_between {y k : Nat} (hy : y ≤ 255) (hk : k ≤ 4)
    (above : k < 4 → t.bound (k + 1) < y) (upTo : 1 ≤ k → y ≤ t.bound k) : t.segmentOf y = 1 + k := by
  have count : ∀ k ≤ 4, (List.range 4).countP (fun i => decide (i < k)) = k := by decide
  rw [t.segmentOf_eq, min_eq_left hy, List.countP_congr (q := fun i => decide (i < k)) fun i hi => ?_,
    count k hk]
  have hi := List.mem_range.mp hi
  rw [decide_eq_true_eq, decide_eq_true_eq]
  constructor
  · intro hle
    by_contra hik
    have := h.bound_le (j := k + 1) (k := i + 1) (by omega) (by omega) (by omega)
    have := above (by omega)
    omega
  · intro hik
    exact (upTo (by omega)).trans (h.bound_le (by omega) (by omega) hk)

end

/-- The selection of a segment in its three cases (R66). -/
theorem EnergyTable.select_cases (t : EnergyTable) (c x : Nat) :
    (t.segmentOf x < c → t.select c x = t.segmentOf x)
      ∧ (c ≤ t.segmentOf x → c < t.segmentOf (x + t.hysteresis) →
          t.select c x = t.segmentOf (x + t.hysteresis))
      ∧ (c ≤ t.segmentOf x → t.segmentOf (x + t.hysteresis) ≤ c → t.select c x = c) :=
  ⟨fun hu => if_pos hu, fun hc hd => (if_neg (Nat.not_lt.mpr hc)).trans (if_pos hd),
    fun hc hd => (if_neg (Nat.not_lt.mpr hc)).trans (if_neg (Nat.not_lt.mpr hd))⟩

/-- Settles O38: the map by the interval a reading lies in, and the selection case by case; a reading of the
segment that stands selects it again, since the hysteresis leads to no higher one. -/
theorem energyReportSelectsSegment : Obligations.EnergyReportSelectsSegment := by
  unfold Obligations.EnergyReportSelectsSegment
  refine ⟨?_, rfl, ?_⟩
  · intro t hv b r
    have h := t.valid_iff.mp hv
    have low := (h.bounds 0 (by decide)).2
    have between {y : Nat} (k : Nat) := h.segmentOf_between (y := y) (k := k)
    refine ⟨t.segmentOf_eq, t.segmentOf_min, between 0 le_rfl (by decide) (by omega) (by omega),
      between 4 (by decide) (by decide) (by omega) (by omega), fun y hy => ?_⟩
    exact ⟨fun lo => between 0 hy (by decide) (fun _ => lo) (by omega),
      fun lo hi => between 1 hy (by decide) (fun _ => lo) fun _ => hi,
      fun lo hi => between 2 hy (by decide) (fun _ => lo) fun _ => hi,
      fun lo hi => between 3 hy (by decide) (fun _ => lo) fun _ => hi,
      fun hi => between 4 hy (by decide) (by omega) fun _ => hi⟩
  · intro s f ht hk hl x c r hyst
    have he : exec .energyReport s = s.runRequest .energyReport 1 anyState energyReportBlock := rfl
    obtain ⟨up, down, stay⟩ := s.energy.table.select_cases c x
    exact ⟨s.energy.table.select c x,
      State.runRequest_answers s f _ _ _ _ _ _ _ _ he ht hk hl rfl rfl rfl rfl rfl, up, down, stay,
      fun hx => stay hx.ge ((EnergyTable.segmentOf_antitone _ (Nat.le_add_right _ _)).trans hx.le)⟩

end Sys2Proof.Machine

/-! ### The target and the active budget (R70 to R72) -/

namespace Sys2Proof.Machine

/-- A graded table grades in segments 2 to 4 (R71). -/
theorem Energy.target_of_graded {e : Energy} (hg : e.table.graded = true) (h2 : 2 ≤ e.segment)
    (h4 : e.segment ≤ 4) : e.target = e.gradedTarget :=
  if_pos (by rw [hg, Bool.true_and]; exact decide_eq_true ⟨h2, h4⟩)

/-- Without grading, and in the segments 1 and 5, the target is the segment's budget (R70). -/
theorem Energy.target_of_plain {e : Energy}
    (h : e.table.graded = false ∨ e.segment = 1 ∨ e.segment = 5) :
    e.target = e.table.budget e.segment := by
  refine if_neg fun hc => ?_
  rw [Bool.and_eq_true, decide_eq_true_eq] at hc
  obtain ⟨hg, h2, h4⟩ := hc
  rcases h with h | h | h
  · rw [h] at hg
    cases hg
  · omega
  · omega

/-- The share that a reading between the boundaries takes of the rise between two budgets (R71). -/
def gradedShare (low high below above x : Nat) : Nat :=
  below + (above - below) * (max low (min x high) - low) / (high - low)

theorem Energy.gradedTarget_eq {e : Energy} {x : Nat} (hx : e.reading = some x) :
    e.gradedTarget
      = gradedShare (e.table.bound e.segment) (e.table.bound (e.segment - 1))
          (e.table.budget e.segment) (e.table.budget (e.segment - 1)) x := by
  unfold Energy.gradedTarget gradedShare
  rw [hx]
  rfl

theorem gradedShare_low {low high x : Nat} (below above : Nat) (hx : x ≤ low) :
    gradedShare low high below above x = below := by
  unfold gradedShare
  rw [max_eq_left (by omega), Nat.sub_self, Nat.mul_zero, Nat.zero_div, Nat.add_zero]

theorem gradedShare_high {low high below above x : Nat} (hlh : low < high) (hba : below ≤ above)
    (hx : high ≤ x) : gradedShare low high below above x = above := by
  unfold gradedShare
  rw [min_eq_right hx, max_eq_right hlh.le, Nat.mul_div_cancel _ (by omega)]
  omega

section
variable {e : Energy} {t : Nat}

/-- The active budget below its target (R72). -/
theorem Energy.moved_up (h : e.active < t) :
    e.moved t = if e.table.riseJump then t else min t (e.active + e.table.slew) := if_pos h

/-- The active budget above its target (R72). -/
theorem Energy.moved_down (h : t < e.active) :
    e.moved t = if e.table.fallJump then t else max t (e.active - e.table.slew) :=
  (if_neg (Nat.lt_asymm h)).trans (if_pos h)

/-- The active budget at its target (R72). -/
theorem Energy.moved_self (e : Energy) : e.moved e.active = e.active :=
  (if_neg (Nat.lt_irrefl _)).trans (if_neg (Nat.lt_irrefl _))

end

/-- Settles O39: the graded target with its two ends, and the movement case by case. -/
theorem targetAndActiveBudget : Obligations.TargetAndActiveBudget := by
  unfold Obligations.TargetAndActiveBudget
  refine ⟨fun e hv hg => ⟨fun hs => Energy.target_of_plain (.inr hs), fun h2 h4 x hx => ?_⟩,
    fun e t => ⟨fun ht hj => ?_, fun ht hj => ?_, fun ht hj => ?_, fun ht hj => ?_, ?_⟩⟩
  · have h := e.table.valid_iff.mp hv
    have target := (Energy.target_of_graded hg h2 h4).trans (Energy.gradedTarget_eq hx)
    have bounds := h.bounds_fall (e.segment - 2) (by omega)
    have budgets := h.budgets_fall (e.segment - 2) (by omega)
    rw [show e.segment - 2 + 2 = e.segment by omega,
      show e.segment - 2 + 1 = e.segment - 1 by omega] at bounds budgets
    exact ⟨bounds, target, fun hlow => target.trans (gradedShare_low _ _ hlow),
      fun hhigh => target.trans (gradedShare_high bounds budgets hhigh)⟩
  · rw [Energy.moved_up ht, if_pos hj]
  · rw [Energy.moved_up ht, hj]
    rfl
  · rw [Energy.moved_down ht, if_pos hj]
  · rw [Energy.moved_down ht, hj]
    rfl
  · rintro rfl
    exact e.moved_self

end Sys2Proof.Machine

/-! ### The pass allowance (R68, R70, R73 to R75) -/

namespace Sys2Proof.Machine

/-- The reading's age after the first step, within its range (R68). -/
theorem Energy.agedBy1_eq {e : Energy} (h : e.age ≤ 65536) :
    e.agedBy1 = if e.reading = none ∨ e.age = 65536 then e.age else e.age + 1 := by
  unfold Energy.agedBy1 Config.maxReadingAge
  cases hr : e.reading with
  | none => simp
  | some x =>
    by_cases ha : e.age = 65536
    · simp [ha]
    · have : e.age < 65536 := by omega
      simp [ha, this]

theorem Energy.staleNow_iff (e : Energy) (timeout : Nat) :
    e.staleNow timeout = true ↔ e.reading = none ∨ timeout < e.agedBy1 := by
  unfold Energy.staleNow
  rw [Bool.or_eq_true, Option.isNone_iff_eq_none, decide_eq_true_eq]

theorem Energy.staleBegins_iff (e : Energy) (timeout : Nat) :
    e.staleBegins timeout = true
      ↔ (e.reading = none ∨ timeout < e.agedBy1) ∧ e.stale = false := by
  unfold Energy.staleBegins
  rw [Bool.and_eq_true, Energy.staleNow_iff, Bool.not_eq_true']

/-- The first step of an allowance, said of the reading and its age (R68). -/
theorem Energy.judgeStale_eq {e : Energy} {age timeout : Nat} (hage : e.agedBy1 = age) :
    e.judgeStale timeout
      = { e with
          age := age
          stale := decide (e.reading = none ∨ timeout < age)
          segment := if e.reading = none ∨ timeout < age then 5 else e.segment } := by
  have hstale : e.staleNow timeout = decide (e.reading = none ∨ timeout < age) := by
    rw [Bool.eq_iff_iff, Energy.staleNow_iff, hage, decide_eq_true_iff]
  unfold Energy.judgeStale
  rw [hage, hstale]
  simp only [decide_eq_true_eq]

/-- The allowance that the controller forms, field by field (R73, R74). -/
theorem Energy.allowance_eq (e : Energy) (emergency : Bool) :
    e.allowance emergency
      = { budget :=
            if e.table.lift = true ∧ emergency = true then max e.active (e.table.budget 1)
            else e.active
          carriers :=
            if e.table.lift = true ∧ emergency = true then e.table.carrier 1
            else e.table.carrier e.segment
          segment := e.segment } := by
  unfold Energy.allowance
  by_cases h : e.table.lift = true ∧ emergency = true
  · rw [if_pos (Bool.and_eq_true_iff.mpr h), if_pos h, if_pos h]
  · rw [if_neg (mt Bool.and_eq_true_iff.mp h), if_neg h, if_neg h]

/-- The allowance taken, with the controller it leaves and the allowance it forms given. -/
theorem State.takeAllowance_eq {s : State} {emergency : Bool} {e : Energy} {a : Allowance}
    (he : s.energy.afterAllowance s.ranker.setupCopy.energyTimeout = e)
    (ha : e.allowance emergency = a) :
    s.takeAllowance emergency
      = let s' : State := { s with energy := e, ranker := { s.ranker with allowance := a } }
        if s.energy.staleBegins s.ranker.setupCopy.energyTimeout then
          s'.latchDevice .energyStale s.ranker.newest
        else s' := by
  subst he ha
  rfl

/-- Settles O40: the controller's first three steps and its allowance are those written out, and ENERGY_STALE
is latched where the stale condition begins. -/
theorem allowanceTakenInFourSteps : Obligations.AllowanceTakenInFourSteps := by
  unfold Obligations.AllowanceTakenInFourSteps
  intro s emergency hage e age stale seg e1 e2 lifts allowance s'
  have aged : e.agedBy1 = age := Energy.agedBy1_eq hage
  have judged : e.judgeStale s.ranker.setupCopy.energyTimeout = e1 := Energy.judgeStale_eq aged
  have moved : e.afterAllowance s.ranker.setupCopy.energyTimeout = e2 := by
    unfold Energy.afterAllowance
    rw [judged]
  have begins : e.staleBegins s.ranker.setupCopy.energyTimeout = true ↔ stale ∧ e.stale = false := by
    rw [Energy.staleBegins_iff, aged]
  have taken := State.takeAllowance_eq moved (Energy.allowance_eq e2 emergency)
  exact ⟨fun hg => Energy.target_of_plain (.inl hg),
    fun h => taken.trans (if_pos (begins.mpr h)), fun h => taken.trans (if_neg (mt begins.mp h))⟩

end Sys2Proof.Machine

/-! ### The order of a candidate list (R94) -/

namespace Sys2Proof.Machine

/-- Candidate `b` does not come before candidate `a` (R94). -/
def Candidate.notAfter (n : U16) (a b : Candidate) : Prop :=
  a.tier < b.tier
    ∨ (a.tier = b.tier ∧ (b.key.value < a.key.value
        ∨ (a.key.value = b.key.value ∧ tieKey n a.handle.slot ≤ tieKey n b.handle.slot)))

theorem comesBefore_eq_false_iff {n : U16} {a b : Candidate} :
    comesBefore n b a = false ↔ a.notAfter n b := by
  unfold comesBefore Candidate.notAfter
  rw [decide_eq_false_iff_not]
  omega

theorem Candidate.notAfter_of_comesBefore {n : U16} {a b : Candidate} (h : comesBefore n a b = true) :
    a.notAfter n b := by
  unfold comesBefore at h
  unfold Candidate.notAfter
  rw [decide_eq_true_eq] at h
  omega

theorem Candidate.notAfter_trans {n : U16} {a b c : Candidate} (hab : a.notAfter n b)
    (hbc : b.notAfter n c) : a.notAfter n c := by
  unfold Candidate.notAfter at *
  omega

theorem insertCandidate_perm (n : U16) (c : Candidate) (cs : List Candidate) :
    (insertCandidate n c cs).Perm (c :: cs) := by
  induction cs with
  | nil => exact .refl _
  | cons x xs ih =>
    unfold insertCandidate
    split
    · exact .refl _
    · exact (ih.cons x).trans (.swap c x xs)

/-- A candidate put in its place keeps an ordered list ordered. -/
theorem insertCandidate_ordered {n : U16} (c : Candidate) {cs : List Candidate}
    (h : cs.Pairwise (Candidate.notAfter n)) :
    (insertCandidate n c cs).Pairwise (Candidate.notAfter n) := by
  induction h with
  | nil => exact List.pairwise_singleton _ c
  | @cons x xs hx hxs ih =>
    unfold insertCandidate
    split
    · rename_i hc
      have first := Candidate.notAfter_of_comesBefore hc
      refine .cons (fun y hy => ?_) (.cons hx hxs)
      rcases List.mem_cons.mp hy with rfl | hy
      · exact first
      · exact Candidate.notAfter_trans first (hx y hy)
    · rename_i hc
      refine .cons (fun y hy => ?_) ih
      rcases List.mem_cons.mp ((insertCandidate_perm n c xs).mem_iff.mp hy) with rfl | hy
      · exact comesBefore_eq_false_iff.mp (Bool.not_eq_true _ ▸ hc)
      · exact hx y hy

theorem orderCandidates_perm (n : U16) (cs : List Candidate) : (orderCandidates n cs).Perm cs := by
  induction cs with
  | nil => exact .refl _
  | cons c cs ih => exact (insertCandidate_perm n c _).trans (ih.cons c)

theorem orderCandidates_ordered (n : U16) (cs : List Candidate) :
    (orderCandidates n cs).Pairwise (Candidate.notAfter n) := by
  induction cs with
  | nil => exact .nil
  | cons c cs ih => exact insertCandidate_ordered c ih

/-- A slot's place in tie order (R94). -/
theorem tieKey_eq (n : U16) (slot : Nat) : tieKey n slot = (slot + 96 - n.toNat % 96) % 96 := by
  unfold tieKey
  omega

end Sys2Proof.Machine

/-! ### The end of construction (R95, R110, R134) -/

namespace Sys2Proof.Machine

/-- A list holds an EMERGENCY candidate in whatever order it stands (R74). -/
theorem State.emergencyListed_iff (s : State) {cs ds : List Candidate} (h : cs.Perm ds) :
    s.emergencyListed cs = true ↔ ∃ c ∈ ds, (s.profileCopy c.cls).kind = .emergency := by
  unfold State.emergencyListed
  simp only [List.any_eq_true, beq_iff_eq, h.mem_iff]

/-- The lists in order and the allowance taken, before the Placers start. -/
def State.allowanceTaken (s : State) : State :=
  s.orderLists.takeAllowance (s.orderLists.emergencyListed s.orderLists.ranker.lists.dl)

theorem State.beginPlacement_eq (s : State) : s.beginPlacement = s.allowanceTaken.startPlacers := rfl

theorem State.allowanceTaken_ranker (s : State) :
    s.allowanceTaken.ranker
      = { s.orderLists.ranker with allowance := s.allowanceTaken.ranker.allowance } := by
  rw [State.allowanceTaken, (State.onlyAlerts_takeAllowance _ _).ranker]

/-- Both Placers and both assemblers started, with what they start on given (R110, R134). -/
theorem State.startPlacers_eq {a : State} {lists : PerDir (List Candidate)} {frame : U16} {pass : U32}
    {chunk : Nat} (hlists : a.ranker.lists = lists) (hframe : a.passFrame = frame)
    (hpass : a.ranker.passIndex = pass) (hchunk : a.ranker.setupCopy.chunk = chunk) :
    a.startPlacers
      = { a with
          ranker := { a.ranker with stage := .placing }
          placers :=
            ⟨startedPlacer lists.dl a.ranker.allowance.carriers,
              startedPlacer lists.ul a.ranker.allowance.carriers⟩
          dlBudget := a.ranker.allowance.budget
          dlSpent := 0
          notices := { a.notices with assemblers := .both (openedAssembler frame pass chunk) } } := by
  subst hlists hframe hpass hchunk
  rfl

/-- Settles O47: the lists are the ordered ones, and the Placers and assemblers start on what the allowance
leaves of the Ranker. -/
theorem placementBegins : Obligations.PlacementBegins := by
  unfold Obligations.PlacementBegins
  intro s frame hframe t tie value notAfter
  have passFrame : s.passFrame = frame := by
    unfold State.passFrame
    rw [hframe]
    rfl
  have ordered {a b : Candidate} (h : a.notAfter s.passFrame b) : notAfter a b := by
    unfold Candidate.notAfter at h
    rw [tieKey_eq, tieKey_eq, passFrame] at h
    exact h
  have inOrder (cs : List Candidate) : (orderCandidates s.passFrame cs).Perm cs
      ∧ (orderCandidates s.passFrame cs).Pairwise notAfter :=
    ⟨orderCandidates_perm _ cs, (orderCandidates_ordered _ cs).imp ordered⟩
  have ranker := s.allowanceTaken_ranker
  refine ⟨s.orderLists.ranker.lists, s.orderLists.emergencyListed s.orderLists.ranker.lists.dl,
    fun d => ?_, s.orderLists.emergencyListed_iff (orderCandidates_perm _ _),
    s.allowanceTaken, rfl, ?_⟩
  · cases d with
    | dl => exact inOrder s.ranker.lists.dl
    | ul => exact inOrder s.ranker.lists.ul
  · refine s.beginPlacement_eq.trans (State.startPlacers_eq (by rw [ranker]) ?_ (by rw [ranker]; rfl)
      (by rw [ranker]; rfl))
    unfold State.passFrame at passFrame ⊢
    rw [ranker]
    exact passFrame

end Sys2Proof.Machine

/-! ### What alerting and events keep (R142, R144, R181) -/

namespace Sys2Proof.Machine

/-- What a device alert that is set, a change of the general section, and a change of the Monitor Unit each
keep. -/
structure KeptByAlerting (P : State → Prop) : Prop where
  setAlert : ∀ {s} (a : DeviceAlert), P s → P (s.setAlert a)
  general : ∀ {s} (g : List GeneralEntry), P s →
    P { s with notices := { s.notices with general := g } }
  monitor : ∀ {s} (m : MonitorUnit), P s → P { s with monitor := m }

section
variable {P : State → Prop} (hP : KeptByAlerting P) {s : State} (h : P s)
include hP h

theorem KeptByAlerting.offerGeneral (n : GeneralNotice) : P (s.offerGeneral n) := by
  unfold State.offerGeneral
  split
  · exact hP.general _ h
  · exact hP.setAlert _ h

theorem KeptByAlerting.latchDevice (a : DeviceAlert) (frame : Option U16) :
    P (s.latchDevice a frame) := by
  unfold State.latchDevice
  split
  · exact h
  · split
    · exact hP.setAlert _ h
    · exact hP.offerGeneral (hP.setAlert _ h) _

theorem KeptByAlerting.offerCapture (r : CaptureRecord) : P (s.offerCapture r) := by
  unfold State.offerCapture
  split
  · dsimp only
    split
    · exact hP.offerGeneral (hP.monitor _ h) _
    · exact hP.monitor _ h
  · split
    · exact hP.latchDevice h _ _
    · exact hP.monitor _ h

theorem KeptByAlerting.takeCapture (e : Event) (i : Fin 4) : P (s.takeCapture e i) := by
  unfold State.takeCapture
  dsimp only
  split
  · exact hP.offerCapture (hP.monitor _ h) _
  · exact h

theorem KeptByAlerting.countEvent (e : Event) (i : Fin 4) : P (s.countEvent e i).1 := by
  unfold State.countEvent
  dsimp only
  split
  · split
    · dsimp only
      split
      · exact hP.latchDevice (hP.monitor _ h) _ _
      · exact hP.monitor _ h
    · exact hP.monitor _ h
  · exact h

theorem KeptByAlerting.judgeMonitors (e : Event) (is : List (Fin 4)) (b : Bool) :
    P (is.foldl (judgeMonitor e) (s, b)).1 := by
  induction is generalizing s b with
  | nil => exact h
  | cons i is ih => exact ih (hP.countEvent (hP.takeCapture h e i) e i) _

theorem KeptByAlerting.traceDecision (t : Option TraceEntry) : P (s.traceDecision t) := by
  unfold State.traceDecision
  split
  · exact h
  · split
    · exact h
    · exact hP.monitor _ h

/-- The Monitor Unit taking an event keeps what alerting keeps (R144). -/
theorem KeptByAlerting.takeEvent (e : Event) (t : Option TraceEntry) : P (s.takeEvent e t) := by
  have judged := hP.traceDecision (hP.judgeMonitors h e monitorIndices false) t
  unfold State.takeEvent
  dsimp only
  split
  · exact hP.monitor _ judged
  · exact judged

theorem KeptByAlerting.takeEvents (es : List Event) : P (s.takeEvents es) := by
  unfold State.takeEvents
  induction es generalizing s with
  | nil => exact h
  | cons e es ih => exact ih (hP.takeEvent h e none)

end

/-- A latched device alert stays latched through alerting and events (R181). -/
theorem keptByAlerting_hasAlert (a : DeviceAlert) : KeptByAlerting fun s => s.hasAlert a = true where
  setAlert k h := by rw [State.hasAlert_setAlert, h, Bool.true_or]
  general _ h := h
  monitor _ h := h

theorem State.hasAlert_takeEvents {s : State} {a : DeviceAlert} (h : s.hasAlert a = true)
    (es : List Event) : (s.takeEvents es).hasAlert a = true :=
  (keptByAlerting_hasAlert a).takeEvents h es

/-- A device alert that is latched stands latched (R181). -/
theorem State.latchDevice_hasAlert (s : State) (a : DeviceAlert) (frame : Option U16) :
    (s.latchDevice a frame).hasAlert a = true := by
  have set : (s.setAlert a).hasAlert a = true := by
    rw [State.hasAlert_setAlert, beq_self_eq_true, Bool.or_true]
  unfold State.latchDevice
  split
  · assumption
  · split
    · exact set
    · exact (keptByAlerting_hasAlert a).offerGeneral set _

end Sys2Proof.Machine

/-! ### What a completion reports (R97, R101, R105, R138) -/

namespace Sys2Proof.Machine

/-- The device alerts are the link's. -/
theorem State.hasAlert_congr {s t : State} (h : s.link = t.link) (a : DeviceAlert) :
    s.hasAlert a = t.hasAlert a := by
  unfold State.hasAlert
  rw [h]

theorem State.hasAlert_arbitrate (s : State) (a : DeviceAlert) :
    s.arbitrate.hasAlert a = s.hasAlert a := rfl

/-- A pass truncated by its timer completes with DEADLINE latched (R97). -/
theorem State.complete_hasAlert_deadline {s : State} (h : s.ranker.cause = some .deadline) :
    s.complete.hasAlert .deadline = true := by
  have cause : s.account.ranker.cause = some .deadline := by rw [s.onlyTable_account.ranker, h]
  have latched : s.account.latchDeadline.hasAlert .deadline = true := by
    unfold State.latchDeadline
    rw [if_pos cause]
    exact State.latchDevice_hasAlert _ _ _
  unfold State.complete
  dsimp only
  rw [State.hasAlert_arbitrate]
  refine State.hasAlert_takeEvents ((State.hasAlert_congr ?_ _).trans latched) _
  dsimp only
  rw [State.queueGrant_link]

/-- MAP_END joins the tail of the grant section (R138). -/
theorem State.complete_grants (s : State) :
    s.complete.offLine.notices.grants
      = s.offLine.notices.grants ++ [⟨.mapEnd s.mapEnd, .waiting, s.ranker.passIndex⟩] := by
  obtain ⟨al, more, mo, sl, b, he, rfl, -⟩ := State.complete_footprint s
  rw [he, State.offLine_arbitrate]
  exact List.map_append

/-- PASSES counts the completion (R105, R145). -/
theorem State.complete_passes (s : State) : s.complete.monitor.passes = s.monitor.passes + 1#32 := by
  obtain ⟨al, more, mo, sl, b, he, rfl, -, -, passes, -⟩ := State.complete_footprint s
  rw [he]
  exact passes

theorem State.complete_decoding (s : State) : s.complete.link.decoding = s.link.decoding := by
  obtain ⟨al, more, mo, sl, b, he, rfl, -⟩ := State.complete_footprint s
  rw [he]
  rfl

end Sys2Proof.Machine

/-! ### A construction cut off (R96, R98) -/

namespace Sys2Proof.Machine

/-- Both Placers stopped, the arbiter choosing between the two (log 6, log 23). -/
def State.stopPlacers (s : State) : State := (s.stopPlacer .dl).arbitrate.stopPlacer .ul

section
variable (s : State)

theorem State.flush_link (d : Direction) : (s.flush d).link = s.link := by
  obtain ⟨more, rs, q, he, -⟩ := State.flush_shape s d
  rw [he]

theorem State.flush_monitor (d : Direction) : (s.flush d).monitor = s.monitor := by
  obtain ⟨more, rs, q, he, -⟩ := State.flush_shape s d
  rw [he]

theorem State.stopPlacer_ranker (d : Direction) : (s.stopPlacer d).ranker = s.ranker :=
  State.flush_ranker _ d

theorem State.stopPlacer_placers (d : Direction) :
    (s.stopPlacer d).placers = s.placers.put d { s.placers.get d with stage := .ended .stopped } :=
  State.flush_placers _ d

theorem State.stopPlacer_link (d : Direction) : (s.stopPlacer d).link = s.link :=
  State.flush_link _ d

theorem State.stopPlacer_monitor (d : Direction) : (s.stopPlacer d).monitor = s.monitor :=
  State.flush_monitor _ d

theorem State.stopPlacers_ranker : s.stopPlacers.ranker = s.ranker := by
  rw [State.stopPlacers, State.stopPlacer_ranker, State.arbitrate_ranker, State.stopPlacer_ranker]

theorem State.stopPlacers_placers :
    s.stopPlacers.placers
      = ⟨{ s.placers.dl with stage := .ended .stopped },
          { s.placers.ul with stage := .ended .stopped }⟩ := by
  rw [State.stopPlacers, State.stopPlacer_placers, State.arbitrate_placers, State.stopPlacer_placers]
  rfl

theorem State.stopPlacers_link_decoding : s.stopPlacers.link.decoding = s.link.decoding := by
  rw [State.stopPlacers, State.stopPlacer_link, State.arbitrate_link_decoding, State.stopPlacer_link]

theorem State.stopPlacers_monitor : s.stopPlacers.monitor = s.monitor := by
  rw [State.stopPlacers, State.stopPlacer_monitor, State.arbitrate_monitor, State.stopPlacer_monitor]

end

section
variable {s : State} {d : Direction}

/-- The flush of an assembler with no record pending closes it and queues no chunk (R136). -/
theorem State.flush_of_no_pending (h : (s.notices.assemblers.get d).pending = []) :
    s.flush d
      = { s with
          notices :=
            { s.notices with
              assemblers :=
                s.notices.assemblers.put d { s.notices.assemblers.get d with stage := .closed } } } := by
  unfold State.flush
  dsimp only
  rw [if_pos h]
  rfl

theorem State.stopPlacer_notices (h : (s.notices.assemblers.get d).pending = []) :
    (s.stopPlacer d).notices
      = { s.notices with
          assemblers :=
            s.notices.assemblers.put d { s.notices.assemblers.get d with stage := .closed } } := by
  unfold State.stopPlacer
  rw [State.flush_of_no_pending]
  exact h

/-- With no record pending the stopped Placers queue no chunk (R136). -/
theorem State.stopPlacers_grants (h : ∀ d, (s.notices.assemblers.get d).pending = []) :
    s.stopPlacers.offLine.notices.grants = s.offLine.notices.grants := by
  have first := State.stopPlacer_notices (h .dl)
  have ul : ((s.stopPlacer .dl).arbitrate.notices.assemblers.get .ul).pending = [] := by
    rw [State.arbitrate_assemblers, first]
    exact h .ul
  calc
    s.stopPlacers.offLine.notices.grants = (s.stopPlacer .dl).arbitrate.offLine.notices.grants := by
      show List.map _ s.stopPlacers.notices.grants = List.map _ _
      rw [State.stopPlacers, State.stopPlacer_notices ul]
    _ = (s.stopPlacer .dl).offLine.notices.grants := by rw [State.offLine_arbitrate]
    _ = s.offLine.notices.grants := by
      show List.map _ (s.stopPlacer .dl).notices.grants = List.map _ _
      rw [first]

end

/-! #### The start of placement, field by field (R95, R110) -/

section
variable (s : State)

/-- Placement begins with ordered lists and an allowance, and nothing else of the Ranker but its stage
changes. -/
theorem State.beginPlacement_ranker :
    s.beginPlacement.ranker
      = { s.orderLists.ranker with
          allowance := s.allowanceTaken.ranker.allowance
          stage := .placing } := by
  show { s.allowanceTaken.ranker with stage := .placing } = _
  rw [s.allowanceTaken_ranker]

theorem State.beginPlacement_placers :
    s.beginPlacement.placers
      = ⟨startedPlacer s.orderLists.ranker.lists.dl s.allowanceTaken.ranker.allowance.carriers,
          startedPlacer s.orderLists.ranker.lists.ul s.allowanceTaken.ranker.allowance.carriers⟩ := by
  have lists : s.allowanceTaken.ranker.lists = s.orderLists.ranker.lists := by
    rw [s.allowanceTaken_ranker]
  rw [← lists]
  rfl

theorem State.beginPlacement_grants : s.beginPlacement.notices.grants = s.notices.grants :=
  (s.orderLists.onlyAlerts_takeAllowance _).grants

theorem State.beginPlacement_decoding : s.beginPlacement.link.decoding = s.link.decoding := by
  show s.allowanceTaken.link.decoding = _
  rw [State.allowanceTaken, (State.onlyAlerts_takeAllowance _ _).link]
  rfl

theorem State.beginPlacement_passes : s.beginPlacement.monitor.passes = s.monitor.passes := by
  obtain ⟨_, _, _, he, -, -, passes, -⟩ := State.onlyAlerts_takeAllowance s.orderLists
    (s.orderLists.emergencyListed s.orderLists.ranker.lists.dl)
  show s.allowanceTaken.monitor.passes = _
  rw [State.allowanceTaken, he]
  exact passes

theorem State.beginPlacement_no_pending (d : Direction) :
    (s.beginPlacement.notices.assemblers.get d).pending = [] := by
  cases d <;> rfl

end

/-! #### The cut (R97, R98) -/

/-- A construction cut off with cause `c`, its Placers stopped, before its completion (R98). -/
def State.cutPlacers (s : State) (c : Cause) : State :=
  (State.beginPlacement { s with ranker := { s.ranker with cause := some c } }).stopPlacers

section
variable (s : State) (c : Cause)

theorem State.cutConstruction_eq : s.cutConstruction c = (s.cutPlacers c).complete := rfl

/-- The Ranker keeps what it had but for the cause, the order of the lists, the allowance and the stage. -/
theorem State.cutPlacers_ranker :
    ∃ a, (s.cutPlacers c).ranker
      = { s.orderLists.ranker with cause := some c, allowance := a, stage := .placing } :=
  ⟨_, (State.stopPlacers_ranker _).trans (State.beginPlacement_ranker _)⟩

/-- Both Placers have stopped before their first candidate. -/
theorem State.cutPlacers_placers :
    ∃ n, (s.cutPlacers c).placers
      = ⟨{ startedPlacer s.orderLists.ranker.lists.dl n with stage := .ended .stopped },
          { startedPlacer s.orderLists.ranker.lists.ul n with stage := .ended .stopped }⟩ := by
  unfold State.cutPlacers
  rw [State.stopPlacers_placers, State.beginPlacement_placers]
  exact ⟨_, rfl⟩

/-- No chunk has joined the grant section. -/
theorem State.cutPlacers_grants :
    (s.cutPlacers c).offLine.notices.grants = s.offLine.notices.grants := by
  unfold State.cutPlacers
  rw [State.stopPlacers_grants (State.beginPlacement_no_pending _)]
  show List.map _ (State.beginPlacement _).notices.grants = _
  rw [State.beginPlacement_grants]
  rfl

theorem State.cutPlacers_decoding : (s.cutPlacers c).link.decoding = s.link.decoding :=
  (State.stopPlacers_link_decoding _).trans (State.beginPlacement_decoding _)

theorem State.cutPlacers_passes : (s.cutPlacers c).monitor.passes = s.monitor.passes :=
  (congrArg MonitorUnit.passes (State.stopPlacers_monitor _)).trans (State.beginPlacement_passes _)

end

end Sys2Proof.Machine

/-! ### DEADLINE_EXPIRY (R96 to R98, R101) -/

namespace Sys2Proof.Machine

/-- The deadline timer run out (R96). -/
def State.timedOut (s : State) : State := { s with ranker := { s.ranker with timer := .expired } }

/-- A decoding that does not wait for the end of a pass is left alone by one. -/
theorem State.resolveDeferred_of_not_waiting {s : State} (h : s.link.decoding.waits = false) :
    s.resolveDeferred = s := by
  unfold State.resolveDeferred
  split
  · rename_i hd
    rw [hd] at h
    cases h
  · rename_i hd
    rw [hd] at h
    cases h
  · rfl
  · rfl

/-- A construction that its timer cuts off, with no cause standing and no decoding that waits (R98). -/
theorem State.truncate_deadline {s : State} (hstage : s.ranker.stage = .constructing)
    (hcause : s.ranker.cause = none) (hwaits : s.link.decoding.waits = false) :
    s.truncate .deadline = s.cutConstruction .deadline := by
  rw [State.truncate_constructing s _ hstage, hcause]
  refine (State.truncateConstruction_eq s .deadline).trans (State.resolveDeferred_of_not_waiting ?_)
  rw [State.cutConstruction_eq, State.complete_decoding, State.cutPlacers_decoding]
  exact hwaits

section
variable {s : State}

theorem execDeadlineExpiry_of_stopped (h : s.ranker.timer ≠ .running) :
    exec .deadlineExpiry s = .next s :=
  if_neg fun hc => h hc.1

section
variable (ht : s.ranker.timer = .running) (hr : s.link.resetHeld = false)
include ht hr

/-- With a cause standing the timer expires and truncates nothing (R96). -/
theorem execDeadlineExpiry_of_cause (hc : s.ranker.cause.isSome = true) :
    exec .deadlineExpiry s = .next s.timedOut :=
  (if_pos ⟨ht, hr⟩).trans (congrArg _ (if_pos hc))

/-- With no cause standing the timer truncates the pass (R96). -/
theorem execDeadlineExpiry_of_no_cause (hc : s.ranker.cause = none) :
    exec .deadlineExpiry s = .next (s.timedOut.truncate .deadline) :=
  (if_pos ⟨ht, hr⟩).trans (congrArg _ (if_neg (by rw [hc]; exact Bool.false_ne_true)))

end

/-- Under construction no cause stands, the pass has its frame, and no decoding waits for its end. -/
theorem State.PassInv.of_constructing (h : s.PassInv) (hs : s.ranker.stage = .constructing) :
    s.ranker.cause = none ∧ (∃ F, s.ranker.newest = some F) ∧ s.link.decoding.waits = false := by
  obtain ⟨-, flying, building, -, -, waiting, -⟩ := h
  obtain ⟨cause, -⟩ := building hs
  obtain ⟨-, present, -⟩ := flying (by rw [hs]; exact PassStage.noConfusion)
  refine ⟨cause, Option.isSome_iff_exists.mp present, Bool.eq_false_iff.mpr fun hw => ?_⟩
  obtain ⟨placing, -⟩ := waiting hw
  rw [hs] at placing
  cases placing

end

/-- The MAP_END of a construction cut off for frame `F`: no grant, and every candidate unreached (R98,
R105). -/
theorem State.mapEnd_cutPlacers {s : State} {F : U16} (hF : s.ranker.newest = some F) :
    ((s.cutPlacers .deadline).mapEnd).cause = .deadline
      ∧ (s.cutPlacers .deadline).mapEnd.frame = F
      ∧ ∀ d, ((s.cutPlacers .deadline).mapEnd.figures.get d).grants = 0
          ∧ ((s.cutPlacers .deadline).mapEnd.figures.get d).unreached
              = (s.ranker.lists.get d).length := by
  obtain ⟨a, ranker⟩ := s.cutPlacers_ranker .deadline
  obtain ⟨n, placers⟩ := s.cutPlacers_placers .deadline
  unfold State.mapEnd State.passFrame
  rw [ranker, placers]
  refine ⟨rfl, ?_, fun d => ?_⟩
  · show s.ranker.newest.getD 0#16 = F
    rw [hF]
    rfl
  · cases d with
    | dl => exact ⟨rfl, (orderCandidates_perm s.passFrame s.ranker.lists.dl).length_eq⟩
    | ul => exact ⟨rfl, (orderCandidates_perm s.passFrame s.ranker.lists.ul).length_eq⟩

/-- Settles O53: by the timer, the cause that stands and the stage; a construction cut off is read through the
state its Placers stop in and the completion of that state. -/
theorem deadlineExpires : Obligations.DeadlineExpires := by
  unfold Obligations.DeadlineExpires
  intro s hr
  refine ⟨execDeadlineExpiry_of_stopped, fun ht =>
    ⟨execDeadlineExpiry_of_cause ht hr, fun hc hs => ?_, ?_⟩⟩
  · rw [execDeadlineExpiry_of_no_cause ht hr hc, State.truncate_placing s.timedOut _ hs]
    unfold State.timedOut
    dsimp only
    rw [hc]
    rfl
  · intro hinv hs t
    obtain ⟨cause, ⟨F, hF⟩, waits⟩ := hinv.of_constructing hs
    obtain ⟨a, ranker⟩ := s.timedOut.cutPlacers_ranker .deadline
    obtain ⟨mapCause, frame, figures⟩ := State.mapEnd_cutPlacers (s := s.timedOut) hF
    have standing : (s.timedOut.cutPlacers .deadline).ranker.cause = some .deadline := by rw [ranker]
    have done : t.ranker = (s.timedOut.cutPlacers .deadline).ranker.finished :=
      State.complete_ranker _
    have joined := (s.timedOut.cutPlacers .deadline).complete_grants
    rw [ranker] at done
    rw [State.cutPlacers_grants, ranker] at joined
    refine ⟨?_, (s.timedOut.cutPlacers .deadline).mapEnd, by rw [done]; rfl, by rw [done]; rfl,
      by rw [done]; rfl, by rw [done]; rfl, by rw [done]; rfl, ?_, ?_, joined, mapCause,
      by rw [frame, hF], (figures .dl).1, (figures .ul).1, (figures .dl).2, (figures .ul).2⟩
    · rw [execDeadlineExpiry_of_no_cause ht hr cause,
        State.truncate_deadline (s := s.timedOut) hs cause waits]
      rfl
    · exact State.complete_hasAlert_deadline standing
    · exact (State.complete_passes _).trans (congrArg (· + 1#32) (State.cutPlacers_passes _ _))

end Sys2Proof.Machine

/-! ### What an owning block leaves alone (R170 step 4) -/

namespace Sys2Proof.Machine

/-- The state with everything blanked that an owning block may write, SERVICE_ON's apart: the tables, the
records, the controller, the Monitor Unit, the pass setup in use by the next pass, and of the link the alerts
and the mask. -/
def State.besideBlocks (s : State) : State :=
  { s with
    slots := Vector.replicate 96 resetSlot
    profiles := Vector.replicate 8 resetProfile
    rateTable := resetRateTable
    trackSetup := resetTrackSetup
    energy := resetEnergy
    monitor := resetMonitorUnit
    ranker := { s.ranker with setup := resetPassSetup }
    link := { s.link with alerts := 0#10, mask := 0#14 } }

/-- The block leaves the line, the notices, the Placers and the pass in flight. -/
def KeepsBeside (block : List Byte → State → Reply) : Prop :=
  ∀ b s, (block b s).state.besideBlocks = s.besideBlocks

theorem keepsBeside_withNamed {act : Handle → Subscriber → State → Reply}
    (h : ∀ k u s, (act k u s).state.besideBlocks = s.besideBlocks) : KeepsBeside (withNamed act) := by
  intro b s
  unfold withNamed
  split
  · exact h _ _ _
  · rfl

theorem keepsBeside_alertClear : KeepsBeside alertClearBlock := by
  intro b s
  unfold alertClearBlock State.clearNamed
  split
  · rfl
  · split
    · rfl
    · rfl
    · split
      · rfl
      · split <;> rfl

theorem keepsBeside_alertMask : KeepsBeside alertMaskBlock := by
  intro b s
  unfold alertMaskBlock
  split <;> rfl

theorem keepsBeside_rateTable : KeepsBeside rateTableBlock := by
  intro b s
  unfold rateTableBlock
  split <;> rfl

theorem keepsBeside_trackSetup : KeepsBeside trackSetupBlock := by
  intro b s
  unfold trackSetupBlock
  split <;> rfl

theorem keepsBeside_classProfile : KeepsBeside classProfileBlock := by
  intro b s
  unfold classProfileBlock
  split <;> rfl

theorem keepsBeside_energyTable : KeepsBeside energyTableBlock := by
  intro b s
  unfold energyTableBlock
  split <;> rfl

theorem keepsBeside_passSetup : KeepsBeside passSetupBlock := by
  intro b s
  unfold passSetupBlock
  split <;> rfl

theorem keepsBeside_admission : KeepsBeside admitBlock := by
  intro b s
  unfold admitBlock
  split
  · rfl
  · split
    · split <;> rfl
    · rfl

theorem suspendBlock_besideBlocks (k : Handle) (u : Subscriber) (s : State) :
    (suspendBlock k u s).state.besideBlocks = s.besideBlocks := by
  unfold suspendBlock
  split <;> rfl

theorem resumeBlock_besideBlocks (k : Handle) (u : Subscriber) (s : State) :
    (resumeBlock k u s).state.besideBlocks = s.besideBlocks := by
  unfold resumeBlock
  split <;> rfl

theorem linkUpdateFields_besideBlocks (b : List Byte) (k : Handle) (u : Subscriber) (s : State) :
    (linkUpdateFields b k u s).state.besideBlocks = s.besideBlocks := by
  unfold linkUpdateFields
  split
  · rfl
  · split
    · split
      · rfl
      · split <;> rfl
    · rfl
    · rfl

theorem keepsBeside_subscriberRead : KeepsBeside subscriberReadBlock := by
  intro b s
  unfold subscriberReadBlock
  dsimp only
  split
  · rfl
  · split <;> rfl
  · split
    · split <;> rfl
    · rfl

theorem keepsBeside_monitorSetup : KeepsBeside monitorSetupBlock := by
  intro b s
  unfold monitorSetupBlock
  split <;> rfl

theorem keepsBeside_bufferSetup : KeepsBeside bufferSetupBlock := by
  intro b s
  unfold bufferSetupBlock
  split <;> rfl

theorem keepsBeside_counterRead : KeepsBeside counterReadBlock := by
  intro b s
  unfold counterReadBlock
  split
  · rfl
  · dsimp only
    split <;> rfl

theorem keepsBeside_captureRead : KeepsBeside captureReadBlock := by
  intro b s
  unfold captureReadBlock
  dsimp only
  split <;> rfl

end Sys2Proof.Machine

/-! ### The invariant of the pass: what does not bear on it (R79, R96 to R101, R109) -/

namespace Sys2Proof.Machine

section
variable {s t : State}

/-- What the owning blocks write does not bear on the pass. -/
theorem State.passInv_besideBlocks : s.besideBlocks.PassInv ↔ s.PassInv := Iff.rfl

theorem State.PassInv.block (h : s.PassInv) {block : List Byte → State → Reply}
    (hb : KeepsBeside block) (b : List Byte) : (block b s).state.PassInv := by
  rw [← State.passInv_besideBlocks, hb, State.passInv_besideBlocks]
  exact h

theorem State.PassInv.alerting (h : s.PassInv) (ho : s.OnlyAlerts t) : t.PassInv := by
  obtain ⟨al, more, mo, rfl, -⟩ := ho
  exact h

theorem State.PassInv.table (h : s.PassInv) (ho : s.OnlyTable t) : t.PassInv := by
  obtain ⟨sl, ho⟩ := ho
  exact State.PassInv.alerting (s := { s with slots := sl }) h ho

theorem State.PassInv.arbitrate (h : s.PassInv) : s.arbitrate.PassInv := h

/-- An answer ends the decoding; how it waited, and on which frame, does not bear on the pass. -/
theorem State.passInv_joinAnswer (h : (s.withDecoding .idle).PassInv) (f : Frame) (r : Result)
    (d : AnswerData) : (s.joinAnswer f r d).PassInv := by
  obtain ⟨idle, flying, building, placing, stopped, -, expired, -, restarting⟩ := h
  unfold State.PassInv
  rw [State.joinAnswer_ranker, State.joinAnswer_placers, State.joinAnswer_assemblers,
    State.joinAnswer_link_device, State.joinAnswer_link_decoding, State.joinAnswer_link_restart]
  exact ⟨idle, flying, building, placing, stopped, Bool.noConfusion, expired, fun hne => absurd rfl hne,
    restarting⟩

theorem State.PassInv.endDecoding (h : s.PassInv) : (s.withDecoding .idle).PassInv := by
  obtain ⟨idle, flying, building, placing, stopped, -, expired, -, restarting⟩ := h
  exact ⟨idle, flying, building, placing, stopped, Bool.noConfusion, expired, fun hne => absurd rfl hne,
    fun hr => ⟨(restarting hr).1, rfl⟩⟩

theorem State.PassInv.joinAnswer (h : s.PassInv) (f : Frame) (r : Result) (d : AnswerData) :
    (s.joinAnswer f r d).PassInv :=
  State.passInv_joinAnswer h.endDecoding f r d

/-- A batch stands between two of its entries: its frame is there, and no RESTART has been accepted. -/
theorem State.PassInv.pause (h : s.PassInv) (hframe : s.link.accepted ≠ [])
    (hrestart : s.link.restart = .none) (p : BatchProgress) :
    (s.withDecoding (.batch p)).PassInv := by
  obtain ⟨idle, flying, building, placing, stopped, -, expired, -, -⟩ := h
  exact ⟨idle, flying, building, placing, stopped, Bool.noConfusion, expired, fun _ => hframe,
    fun hr => absurd hrestart hr⟩

end

/-! ### The pass by its stages -/

/-- No decoding waits for the end of a pass, one under way has its frame, and an accepted RESTART leaves
none. -/
def Link.Unhurried (l : Link) : Prop :=
  l.decoding.waits = false ∧ (l.decoding ≠ .idle → l.accepted ≠ [])
    ∧ (l.restart ≠ .none → l.decoding = .idle)

section
variable {s : State}

/-- With no pass in flight. -/
theorem State.passInv_of_idle (hstage : s.ranker.stage = .idle) (hcause : s.ranker.cause = none)
    (htimer : s.ranker.timer = .idle) (hdl : s.placers.dl.stage ≠ .running)
    (hul : s.placers.ul.stage ≠ .running) (hlink : s.link.Unhurried) : s.PassInv := by
  obtain ⟨waits, frame, restart⟩ := hlink
  refine ⟨fun _ => ⟨hcause, htimer⟩, fun h => absurd hstage h, fun h => ?_, fun h => ?_,
    fun _ => ⟨hdl, hul⟩, fun h => ?_, fun h => ?_, frame, fun h => ⟨hstage, restart h⟩⟩
  · rw [hstage] at h
    cases h
  · rw [hstage] at h
    cases h
  · rw [waits] at h
    cases h
  · rw [hcause] at h
    cases h

/-- What a pass in flight rests on: the device in SERVICE, its frame, and no accepted RESTART. -/
structure State.Flies (s : State) : Prop where
  device : s.link.device = .service
  newest : s.ranker.newest.isSome = true
  frame : s.link.decoding ≠ .idle → s.link.accepted ≠ []
  restart : s.link.restart = .none

theorem State.PassInv.flies (h : s.PassInv) (hs : s.ranker.stage ≠ .idle) : s.Flies := by
  obtain ⟨-, flying, -, -, -, -, -, frame, restarting⟩ := h
  obtain ⟨device, newest, -⟩ := flying hs
  exact ⟨device, newest, frame, Classical.byContradiction fun hr => hs (restarting hr).1⟩

/-- Under construction. -/
theorem State.passInv_of_constructing (hstage : s.ranker.stage = .constructing)
    (hcause : s.ranker.cause = none) (htimer : s.ranker.timer = .running)
    (hslot : s.ranker.nextSlot < Config.slotCount) (hdl : s.placers.dl.stage ≠ .running)
    (hul : s.placers.ul.stage ≠ .running) (hwaits : s.link.decoding.waits = false) (hflies : s.Flies) :
    s.PassInv := by
  refine ⟨fun h => ?_, fun _ => ⟨hflies.device, hflies.newest, ?_⟩, fun _ => ⟨hcause, htimer, hslot⟩,
    fun h => ?_, fun _ => ⟨hdl, hul⟩, fun h => ?_, fun h => ?_, hflies.frame,
    fun h => absurd hflies.restart h⟩
  · rw [hstage] at h
    cases h
  · rw [htimer]
    exact TimerState.noConfusion
  · rw [hstage] at h
    cases h
  · rw [hwaits] at h
    cases h
  · rw [hcause] at h
    cases h

/-- In placement. -/
theorem State.passInv_of_placing (hstage : s.ranker.stage = .placing) (htimer : s.ranker.timer ≠ .idle)
    (hdl : placerInPass s.placers.dl s.notices.assemblers.dl)
    (hul : placerInPass s.placers.ul s.notices.assemblers.ul)
    (hends : ¬(s.placers.dl.hasEnded = true ∧ s.placers.ul.hasEnded = true))
    (hwaits : s.link.decoding.waits = true → s.ranker.cause.isSome = true)
    (hexpired : s.ranker.cause = some .deadline → s.ranker.timer = .expired) (hflies : s.Flies) :
    s.PassInv := by
  refine ⟨fun h => ?_, fun _ => ⟨hflies.device, hflies.newest, htimer⟩, fun h => ?_,
    fun _ => ⟨hdl, hul, hends⟩, fun h => absurd hstage h, fun h => ⟨hstage, hwaits h⟩, hexpired,
    hflies.frame, fun h => absurd hflies.restart h⟩
  · rw [hstage] at h
    cases h
  · rw [hstage] at h
    cases h

end

/-! ### A pass starts, and a decoding that waited is answered (R82, R83, R99, R100) -/

/-- In SERVICE no pass is in flight, so that what waits for the end of a pass may be answered. -/
structure State.Settled (s : State) : Prop where
  device : s.link.device = .service
  frame : s.link.decoding ≠ .idle → s.link.accepted ≠ []
  restart : s.link.restart = .none
  stage : s.ranker.stage = .idle
  cause : s.ranker.cause = none
  timer : s.ranker.timer = .idle
  dl : s.placers.dl.stage ≠ .running
  ul : s.placers.ul.stage ≠ .running

section
variable {s : State}

theorem State.startMarkedPass_passInv (hdevice : s.link.device = .service)
    (hrestart : s.link.restart = .none) (hframe : s.link.accepted ≠ [])
    (hdl : s.placers.dl.stage ≠ .running) (hul : s.placers.ul.stage ≠ .running) (F : U16) :
    (s.startMarkedPass F).PassInv := by
  have hf := List.head?_eq_some_head hframe
  have started := State.onlyTable_startPass s F
  have ranker : (s.startPass F).ranker = s.ranker.started F s.profiles := started.ranker
  have placers : (s.startPass F).placers = s.placers := started.placers
  have link := s.startPass_link F
  have fresh : ((s.startPass F).withDecoding .idle).PassInv := by
    refine State.passInv_of_constructing ?_ ?_ ?_ ?_ ?_ ?_ rfl ⟨?_, ?_, fun hne => absurd rfl hne, ?_⟩
    · exact congrArg Ranker.stage ranker
    · exact congrArg Ranker.cause ranker
    · exact congrArg Ranker.timer ranker
    · exact lt_of_eq_of_lt (congrArg Ranker.nextSlot ranker) (Nat.zero_lt_succ _)
    · exact fun h => hdl ((congrArg (·.dl.stage) placers).symm.trans h)
    · exact fun h => hul ((congrArg (·.ul.stage) placers).symm.trans h)
    · exact (congrArg Link.device link).trans hdevice
    · exact congrArg (·.newest.isSome) ranker
    · exact (congrArg Link.restart link).trans hrestart
  have answered : ((s.startPass F).answerHead .ok).PassInv := by
    rw [State.answerHead_eq ((congrArg (·.accepted.head?) link).trans hf)]
    exact State.passInv_joinAnswer fresh _ .ok .empty
  rcases State.startMarkedPass_cases s F with he | ⟨b, ho, he⟩
  · rw [he]
    exact answered
  · rw [he]
    exact (answered.alerting ho).arbitrate

/-- A FRAME_MARK that waited starts its pass, a SERVICE_OFF enters CONFIG, and nothing else waited. -/
theorem State.Settled.resolveDeferred (h : s.Settled) : s.resolveDeferred.PassInv := by
  have quiet (hw : s.link.decoding.waits = false) : s.PassInv :=
    State.passInv_of_idle h.stage h.cause h.timer h.dl h.ul
      ⟨hw, h.frame, fun hr => absurd h.restart hr⟩
  unfold State.resolveDeferred
  split
  · rename_i F hd
    exact State.startMarkedPass_passInv h.device h.restart (h.frame (by rw [hd]; exact Decoding.noConfusion))
      h.dl h.ul F
  · rename_i hd
    have head := List.head?_eq_some_head (h.frame (by rw [hd]; exact Decoding.noConfusion))
    rw [State.answerHead_eq (s := { s with link := { s.link with device := .config } }) head]
    refine State.passInv_joinAnswer ?_ _ .ok .empty
    exact State.passInv_of_idle h.stage h.cause h.timer h.dl h.ul
      ⟨rfl, fun hne => absurd rfl hne, fun _ => rfl⟩
  · rename_i hd
    exact quiet (by rw [hd]; rfl)
  · rename_i p hd
    exact quiet (by rw [hd]; rfl)

/-- A completion changes the link in its alerts and the message on TXD alone. -/
theorem State.complete_link (s : State) :
    s.complete.link
      = { s.link with alerts := s.complete.link.alerts, tx := s.complete.link.tx } := by
  obtain ⟨al, more, mo, sl, b, he, rfl, -⟩ := State.complete_footprint s
  rw [he]
  rfl

theorem Placer.not_running_of_hasEnded {p : Placer} (h : p.hasEnded = true) : p.stage ≠ .running := by
  intro hr
  unfold Placer.hasEnded at h
  rw [hr] at h
  cases h

/-- A pass whose Placers have both ended completes. -/
theorem State.Flies.complete (h : s.Flies) (hdl : s.placers.dl.hasEnded = true)
    (hul : s.placers.ul.hasEnded = true) : s.complete.Settled := by
  have ranker := s.complete_ranker
  have link := s.complete_link
  have placers := s.complete_placers
  refine ⟨?_, ?_, ?_, ?_, ?_, ?_, ?_, ?_⟩
  · rw [link]
    exact h.device
  · rw [link]
    exact h.frame
  · rw [link]
    exact h.restart
  · rw [ranker]
    rfl
  · rw [ranker]
    rfl
  · rw [ranker]
    rfl
  · rw [placers]
    exact Placer.not_running_of_hasEnded hdl
  · rw [placers]
    exact Placer.not_running_of_hasEnded hul


/-! ### The end of a Placer and the cut of a construction (R97, R98, R101, R128, R136) -/

theorem State.flush_assemblers (s : State) (d : Direction) :
    ∃ rs q, (s.flush d).notices.assemblers
      = s.notices.assemblers.put d
          { s.notices.assemblers.get d with stage := .closed, pending := rs, seq := q } := by
  obtain ⟨more, rs, q, he, -⟩ := State.flush_shape s d
  exact ⟨rs, q, by rw [he]⟩

/-- The Placer of a direction ended and its assembler flushed, before what follows from it. -/
def State.endedPlacer (s : State) (d : Direction) (why : EndReason) : State :=
  (s.putPlacer d { s.placers.get d with stage := .ended why }).flush d

theorem State.endPlacer_eq (s : State) (d : Direction) (why : EndReason) :
    s.endPlacer d why = (s.endedPlacer d why).afterEnd d := rfl

theorem State.endedPlacer_ranker (s : State) (d : Direction) (why : EndReason) :
    (s.endedPlacer d why).ranker = s.ranker := State.flush_ranker _ d

theorem State.endedPlacer_link (s : State) (d : Direction) (why : EndReason) :
    (s.endedPlacer d why).link = s.link := State.flush_link _ d

theorem State.endedPlacer_placers (s : State) (d : Direction) (why : EndReason) :
    (s.endedPlacer d why).placers = s.placers.put d { s.placers.get d with stage := .ended why } :=
  State.flush_placers _ d

theorem State.endedPlacer_assembler (s : State) (d : Direction) (why : EndReason) :
    ((s.endedPlacer d why).notices.assemblers.get d).stage = .closed
      ∧ (s.endedPlacer d why).notices.assemblers.get (otherDir d)
          = s.notices.assemblers.get (otherDir d) := by
  obtain ⟨rs, q, he⟩ :=
    State.flush_assemblers (s.putPlacer d { s.placers.get d with stage := .ended why }) d
  unfold State.endedPlacer
  rw [he, PerDir.get_put_same, PerDir.get_put_other]
  exact ⟨rfl, rfl⟩

/-- What a pass in flight rests on is the link, and the newest frame. -/
theorem State.Flies.congr {t : State} (h : s.Flies) (hl : t.link = s.link)
    (hn : t.ranker.newest = s.ranker.newest) : t.Flies := by
  refine ⟨?_, ?_, ?_, ?_⟩
  · rw [hl]
    exact h.device
  · rw [hn]
    exact h.newest
  · rw [hl]
    exact h.frame
  · rw [hl]
    exact h.restart

/-- In placement, direction by direction. -/
theorem State.passInv_of_placing_of_dir (d : Direction) (hstage : s.ranker.stage = .placing)
    (htimer : s.ranker.timer ≠ .idle)
    (hdir : placerInPass (s.placers.get d) (s.notices.assemblers.get d))
    (hother : placerInPass (s.placers.get (otherDir d)) (s.notices.assemblers.get (otherDir d)))
    (hends : ¬((s.placers.get d).hasEnded = true ∧ (s.placers.get (otherDir d)).hasEnded = true))
    (hwaits : s.link.decoding.waits = true → s.ranker.cause.isSome = true)
    (hexpired : s.ranker.cause = some .deadline → s.ranker.timer = .expired) (hflies : s.Flies) :
    s.PassInv := by
  cases d with
  | dl => exact State.passInv_of_placing hstage htimer hdir hother hends hwaits hexpired hflies
  | ul =>
    exact State.passInv_of_placing hstage htimer hother hdir (fun h => hends ⟨h.2, h.1⟩) hwaits hexpired
      hflies

/-- What the invariant says of a pass in placement. -/
theorem State.PassInv.placing (h : s.PassInv) (hs : s.ranker.stage = .placing) :
    s.ranker.timer ≠ .idle
      ∧ (∀ d, placerInPass (s.placers.get d) (s.notices.assemblers.get d))
      ∧ (∀ d, ¬((s.placers.get d).hasEnded = true ∧ (s.placers.get (otherDir d)).hasEnded = true))
      ∧ (s.link.decoding.waits = true → s.ranker.cause.isSome = true)
      ∧ (s.ranker.cause = some .deadline → s.ranker.timer = .expired) := by
  obtain ⟨-, flying, -, placing, -, waiting, expired, -, -⟩ := h
  obtain ⟨-, -, timer⟩ := flying (by rw [hs]; exact PassStage.noConfusion)
  obtain ⟨dl, ul, ends⟩ := placing hs
  refine ⟨timer, fun d => ?_, fun d => ?_, fun hw => (waiting hw).2, expired⟩
  · cases d
    · exact dl
    · exact ul
  · cases d
    · exact ends
    · exact fun h => ends ⟨h.2, h.1⟩

theorem Placer.hasEnded_of_stage {p : Placer} {why : EndReason} (h : p.stage = .ended why) :
    p.hasEnded = true := by
  unfold Placer.hasEnded
  rw [h]

/-- A Placer of the pass ends: the other still runs, or the pass completes and what waited is answered. -/
theorem State.PassInv.endPlacer (h : s.PassInv) (hs : s.ranker.stage = .placing) (d : Direction)
    (why : EndReason) : (s.endPlacer d why).PassInv := by
  obtain ⟨timer, inPass, -, waits, expired⟩ := h.placing hs
  have ranker := s.endedPlacer_ranker d why
  have link := s.endedPlacer_link d why
  have placers := s.endedPlacer_placers d why
  obtain ⟨closed, kept⟩ := s.endedPlacer_assembler d why
  have flies : (s.endedPlacer d why).Flies :=
    (h.flies (by rw [hs]; exact PassStage.noConfusion)).congr link (congrArg Ranker.newest ranker)
  have ended : ((s.endedPlacer d why).placers.get d).hasEnded = true :=
    Placer.hasEnded_of_stage (why := why) (by rw [placers, PerDir.get_put_same])
  rw [State.endPlacer_eq]
  unfold State.afterEnd
  split
  · rename_i other
    refine State.Settled.resolveDeferred ?_
    cases d
    · exact flies.complete ended other
    · exact flies.complete other ended
  · rename_i other
    refine State.PassInv.arbitrate (State.passInv_of_placing_of_dir d ?_ ?_ (.inr ⟨ended, closed⟩) ?_
      (fun hc => other hc.2) ?_ ?_ flies)
    · rw [ranker]
      exact hs
    · rw [ranker]
      exact timer
    · rw [kept, placers, PerDir.get_put_other]
      exact inPass (otherDir d)
    · rw [link, ranker]
      exact waits
    · rw [ranker]
      exact expired

theorem State.beginPlacement_link (s : State) :
    s.beginPlacement.link = { s.link with alerts := s.beginPlacement.link.alerts } :=
  (s.orderLists.onlyAlerts_takeAllowance _).link

/-- Placement begins from a construction that no decoding waits for. -/
theorem State.PassInv.beginPlacement (hcause : s.ranker.cause = none)
    (htimer : s.ranker.timer = .running) (hwaits : s.link.decoding.waits = false) (hflies : s.Flies) :
    s.beginPlacement.PassInv := by
  have ranker := s.beginPlacement_ranker
  have link := s.beginPlacement_link
  have cause : s.beginPlacement.ranker.cause = none := (congrArg Ranker.cause ranker).trans hcause
  have timer : s.beginPlacement.ranker.timer = .running :=
    (congrArg Ranker.timer ranker).trans htimer
  refine State.passInv_of_placing rfl ?_ (.inl ⟨rfl, rfl⟩) (.inl ⟨rfl, rfl⟩)
    (fun h => Bool.noConfusion h.1) ?_ ?_ ⟨?_, ?_, ?_, ?_⟩
  · rw [timer]
    exact TimerState.noConfusion
  · rw [State.beginPlacement_decoding, hwaits]
    exact Bool.noConfusion
  · rw [cause]
    exact fun h => by cases h
  · rw [link]
    exact hflies.device
  · rw [ranker]
    exact hflies.newest
  · rw [link]
    exact hflies.frame
  · rw [link]
    exact hflies.restart

/-- The arbiter changes of the link the message on TXD alone. -/
theorem State.arbitrate_link (s : State) :
    s.arbitrate.link = { s.link with tx := s.arbitrate.link.tx } := rfl

theorem State.stopPlacers_link (s : State) :
    s.stopPlacers.link = { s.link with tx := s.stopPlacers.link.tx } := by
  rw [State.stopPlacers, State.stopPlacer_link, State.arbitrate_link, State.stopPlacer_link]

/-- The Placers stopped before their first candidate leave the link but for its alerts and the message on
TXD. -/
theorem State.cutPlacers_link (s : State) (c : Cause) :
    (s.cutPlacers c).link
      = { s.link with alerts := (s.cutPlacers c).link.alerts, tx := (s.cutPlacers c).link.tx } := by
  have begun := State.beginPlacement_link { s with ranker := { s.ranker with cause := some c } }
  rw [State.cutPlacers, State.stopPlacers_link, begun]

/-- A construction cut off completes, and what waited for it is answered. -/
theorem State.Flies.cutConstruction (h : s.Flies) (c : Cause) :
    (s.cutConstruction c).resolveDeferred.PassInv := by
  have link := s.cutPlacers_link c
  obtain ⟨a, ranker⟩ := s.cutPlacers_ranker c
  obtain ⟨n, placers⟩ := s.cutPlacers_placers c
  have flies : (s.cutPlacers c).Flies := by
    refine ⟨?_, ?_, ?_, ?_⟩
    · rw [link]
      exact h.device
    · rw [ranker]
      exact h.newest
    · rw [link]
      exact h.frame
    · rw [link]
      exact h.restart
  refine (flies.complete ?_ ?_).resolveDeferred
  · rw [placers]
    rfl
  · rw [placers]
    rfl

/-! ### Truncation (R96 to R100) -/

theorem State.truncate_constructing_eq (hs : s.ranker.stage = .constructing)
    (hc : s.ranker.cause = none) (c : Cause) :
    s.truncate c = (s.cutConstruction c).resolveDeferred := by
  rw [State.truncate_constructing s c hs, hc]
  exact State.truncateConstruction_eq s c

/-- A truncation for another cause leaves the cause that stands (R96). -/
theorem Cause.standing_of_getD {x : Option Cause} {c k : Cause} (h : some (x.getD c) = some k)
    (hc : c ≠ k) : x = some k := by
  cases x with
  | none => exact absurd (Option.some.inj h) hc
  | some y => exact h

/-- A FRAME_MARK or SERVICE_OFF taken up in SERVICE starts its pass, enters CONFIG, or truncates the pass in
flight. -/
theorem State.PassInv.deferUntilIdle (h : s.PassInv) {f : Frame} (ht : s.TakesUp f)
    (hd : s.link.device = .service) (w : Decoding) {c : Cause} (hc : c ≠ .deadline) :
    (s.deferUntilIdle w c).PassInv := by
  obtain ⟨-, restart, -, -, head⟩ := ht
  have frame : s.link.accepted ≠ [] := fun ha => by
    rw [ha] at head
    cases head
  obtain ⟨idle, -, building, -, stopped, -, -, -, -⟩ := id h
  have flies (hs : s.ranker.stage ≠ .idle) : (s.withDecoding w).Flies :=
    ⟨hd, (h.flies hs).newest, fun _ => frame, restart⟩
  unfold State.deferUntilIdle
  split
  · rename_i hs
    obtain ⟨dl, ul⟩ := stopped (by rw [hs]; exact PassStage.noConfusion)
    exact State.Settled.resolveDeferred (s := s.withDecoding w)
      ⟨hd, fun _ => frame, restart, hs, (idle hs).1, (idle hs).2, dl, ul⟩
  · rename_i hs
    obtain ⟨cause, -⟩ := building hs
    rw [State.truncate_constructing_eq (s := { s with link := { s.link with decoding := w } }) hs cause]
    exact (flies (by rw [hs]; exact PassStage.noConfusion)).cutConstruction c
  · rename_i hs
    obtain ⟨timer, inPass, ends, -, expired⟩ := h.placing hs
    rw [State.truncate_placing { s with link := { s.link with decoding := w } } c hs]
    exact State.passInv_of_placing hs timer (inPass .dl) (inPass .ul) (ends .dl) (fun _ => rfl)
      (fun hcause => expired (Cause.standing_of_getD hcause hc))
      ((flies (by rw [hs]; exact PassStage.noConfusion)).congr rfl rfl)

/-- DEADLINE_EXPIRY (R96 to R98). -/
theorem State.PassInv.deadlineExpiry (h : s.PassInv) :
    LeadsTo (exec .deadlineExpiry s) State.PassInv := by
  by_cases ht : s.ranker.timer = .running ∧ s.link.resetHeld = false
  · obtain ⟨running, held⟩ := ht
    obtain ⟨idle, -⟩ := id h
    have inFlight : s.ranker.stage ≠ .idle := fun hs => by
      rw [(idle hs).2] at running
      cases running
    have flies : s.timedOut.Flies := (h.flies inFlight).congr rfl rfl
    cases hs : s.ranker.stage with
    | idle => exact absurd hs inFlight
    | constructing =>
      obtain ⟨cause, -⟩ := h.of_constructing hs
      rw [execDeadlineExpiry_of_no_cause running held cause,
        State.truncate_constructing_eq (s := s.timedOut) hs cause]
      exact .next (flies.cutConstruction _)
    | placing =>
      obtain ⟨-, inPass, ends, waits, -⟩ := h.placing hs
      cases cause : s.ranker.cause with
      | some c =>
        rw [execDeadlineExpiry_of_cause running held (by rw [cause]; rfl)]
        exact .next (State.passInv_of_placing hs TimerState.noConfusion (inPass .dl) (inPass .ul) (ends .dl)
          waits (fun _ => rfl) flies)
      | none =>
        rw [execDeadlineExpiry_of_no_cause running held cause, State.truncate_placing s.timedOut _ hs]
        exact .next (State.passInv_of_placing hs TimerState.noConfusion (inPass .dl) (inPass .ul) (ends .dl)
          (fun _ => rfl) (fun _ => rfl) (flies.congr rfl rfl))
  · rw [show exec .deadlineExpiry s = .next s from if_neg ht]
    exact .next h

/-! ### Construction and placement (R84, R95, R111 to R127) -/

/-- Construction has taken a slot: the next one is to come, or placement begins. -/
theorem State.PassInv.pastSlot (h : s.PassInv) (hs : s.ranker.stage = .constructing) :
    s.pastSlot.PassInv := by
  obtain ⟨-, -, building, -, stopped, -⟩ := id h
  obtain ⟨cause, timer, slot⟩ := building hs
  obtain ⟨-, -, waits⟩ := h.of_constructing hs
  have inFlight : s.ranker.stage ≠ .idle := by
    rw [hs]
    exact PassStage.noConfusion
  have flies := h.flies inFlight
  unfold State.pastSlot
  dsimp only
  split
  · refine State.PassInv.arbitrate ?_
    exact State.PassInv.beginPlacement cause timer waits (flies.congr rfl rfl)
  · rename_i more
    obtain ⟨dl, ul⟩ := stopped (by rw [hs]; exact PassStage.noConfusion)
    refine State.PassInv.arbitrate
      (State.passInv_of_constructing hs cause timer ?_ dl ul waits (flies.congr rfl rfl))
    show s.ranker.nextSlot + 1 < 96
    unfold Config.slotCount at slot
    omega

theorem State.PassInv.constructSlot (h : s.PassInv) : LeadsTo (exec .constructSlot s) State.PassInv := by
  by_cases hc : s.ranker.stage = .constructing ∧ s.link.resetHeld = false
  · obtain ⟨hs, held⟩ := hc
    obtain ⟨-, -, building, -⟩ := id h
    obtain ⟨-, -, slot⟩ := building hs
    obtain ⟨views, lists, ho⟩ := s.constructAt_footprint s.ranker.nextSlot
    have built : (s.constructAt s.ranker.nextSlot).PassInv := State.PassInv.table
      (s := { s with ranker := { s.ranker with views := views, lists := lists } }) h ho
    rw [execConstructSlot_eq held hs slot]
    exact .next (built.pastSlot (by rw [ho.ranker]; exact hs))
  · rw [show exec .constructSlot s = .next s from if_neg hc]
    exact .next h

/-- The Placers may move on, and the assemblers hold other records, while each stands in its stage. -/
theorem State.PassInv.moveOn {t : State} (h : s.PassInv) (hs : s.ranker.stage = .placing)
    (hranker : ∃ views, t.ranker = { s.ranker with views := views }) (hlink : t.link = s.link)
    (hplacers : ∀ d, (t.placers.get d).stage = (s.placers.get d).stage)
    (hassemblers : ∀ d,
      (t.notices.assemblers.get d).stage = (s.notices.assemblers.get d).stage) : t.PassInv := by
  obtain ⟨views, ranker⟩ := hranker
  obtain ⟨timer, inPass, ends, waits, expired⟩ := h.placing hs
  have inFlight : s.ranker.stage ≠ .idle := by
    rw [hs]
    exact PassStage.noConfusion
  have hasEnded (d : Direction) : (t.placers.get d).hasEnded = (s.placers.get d).hasEnded := by
    unfold Placer.hasEnded
    rw [hplacers]
  have still (d : Direction) : placerInPass (t.placers.get d) (t.notices.assemblers.get d) := by
    unfold placerInPass
    rw [hplacers, hassemblers, hasEnded]
    exact inPass d
  refine State.passInv_of_placing ?_ ?_ (still .dl) (still .ul) ?_ ?_ ?_
    ((h.flies inFlight).congr hlink (by rw [ranker]))
  · rw [ranker]
    exact hs
  · rw [ranker]
    exact timer
  · exact fun hc => ends .dl ⟨(hasEnded .dl).symm.trans hc.1, (hasEnded .ul).symm.trans hc.2⟩
  · rw [hlink, ranker]
    exact waits
  · rw [ranker]
    exact expired

/-- A candidate taken: skipped, granted, or the end of its Placer on an empty pool. -/
theorem State.PassInv.placeCandidate (h : s.PassInv) (hs : s.ranker.stage = .placing) (d : Direction)
    (c : Candidate) : (s.placeCandidate d c).PassInv := by
  rcases State.placeCandidate_cases s d c with ⟨he, -⟩ | ⟨k, r, tiles, he⟩ | ⟨u, t, he, -⟩
  · rw [he]
    exact h.endPlacer hs d _
  · rw [he]
    refine State.PassInv.table ?_ (State.onlyTable_skipCandidate s d c k r tiles)
    refine h.moveOn hs ⟨s.ranker.views, rfl⟩ rfl (fun x => ?_) fun _ => rfl
    cases d <;> cases x <;> rfl
  · rw [he]
    obtain ⟨more, rs, q, ho, -⟩ := State.grantCandidate_footprint s d c u t
    refine State.PassInv.table (h.moveOn hs ?_ ?_ (fun x => ?_) fun x => ?_) ho
    · cases d <;> exact ⟨_, rfl⟩
    · cases d <;> rfl
    · cases d <;> cases x <;> rfl
    · cases d <;> cases x <;> rfl

theorem State.PassInv.placerStep (h : s.PassInv) (hs : s.ranker.stage = .placing) (d : Direction)
    (begun : Bool) : (s.placerStep d begun).PassInv := by
  unfold State.placerStep
  split
  · exact h.endPlacer hs d _
  · exact (h.placeCandidate hs d _).arbitrate
  · exact h.endPlacer hs d _
  · rename_i c _ _
    have placed := h.placeCandidate hs d c
    split
    · unfold State.stopAfter
      split
      · rename_i running
        refine placed.arbitrate.endPlacer ?_ d _
        rw [State.arbitrate_ranker, State.placeCandidate_ranker_stage s d c running]
        exact hs
      · exact placed.arbitrate
    · exact h.endPlacer hs d _

theorem State.PassInv.placeCandidateStep (h : s.PassInv) (d : Direction) (begun : Bool) :
    LeadsTo (exec (.placeCandidate d begun) s) State.PassInv := by
  show LeadsTo (execPlaceCandidate d begun s) _
  unfold execPlaceCandidate
  split
  · rename_i hc
    exact .next (h.placerStep hc.1 d begun)
  · exact .next h

/-! ### The requests -/

/-- SERVICE_ON is taken in CONFIG alone, where no pass is in flight (R176). -/
theorem State.PassInv.serviceOnBlock (h : s.PassInv) (hr : serviceOnRule s = none) (b : List Byte) :
    (serviceOnBlock b s).state.PassInv := by
  have config : s.link.device ≠ .service := fun hd => by
    rw [serviceOnRule_wrongState (.inl hd)] at hr
    cases hr
  obtain ⟨idle, flying, -, -, stopped, waiting, -, frame, restarting⟩ := h
  have stage : s.ranker.stage = .idle :=
    Classical.byContradiction fun hs => config (flying hs).1
  obtain ⟨dl, ul⟩ := stopped (by rw [stage]; exact PassStage.noConfusion)
  have waits : s.link.decoding.waits = false := Bool.eq_false_iff.mpr fun hw => by
    rw [(waiting hw).1] at stage
    cases stage
  exact State.passInv_of_idle stage (idle stage).1 (idle stage).2 dl ul
    ⟨waits, frame, fun hne => (restarting hne).2⟩

theorem State.PassInv.execServiceOn (h : s.PassInv) : LeadsTo (execServiceOn s) State.PassInv := by
  unfold Machine.execServiceOn State.runRequest
  split
  · exact .next h
  · refine .next ?_
    unfold State.decodeFrame
    split
    · exact h.joinAnswer _ _ _
    · split
      · exact h.joinAnswer _ _ _
      · rename_i hr
        exact (h.serviceOnBlock hr _).joinAnswer _ _ _

/-- With no pass in flight and nothing being decoded a reset may be awaited or due (R178). -/
theorem State.PassInv.restarting (h : s.PassInv) (hs : s.ranker.stage = .idle)
    (hd : s.link.decoding = .idle) (frames : List Frame) (rx : Receiver) (phase : RestartPhase) :
    State.PassInv
      { s with link := { s.link with accepted := frames, rx := rx, restart := phase } } := by
  obtain ⟨idle, flying, building, placing, stopped, waiting, expired, -, -⟩ := h
  exact ⟨idle, flying, building, placing, stopped, waiting, expired, fun hne => absurd hd hne,
    fun _ => ⟨hs, hd⟩⟩

/-- RESTART is accepted with no pass in flight, and ends its decoding before it is awaited (R178). -/
theorem State.PassInv.execRestart (h : s.PassInv) : LeadsTo (execRestart s) State.PassInv := by
  unfold Machine.execRestart
  split
  · exact .next h
  · rename_i f _
    refine .next ?_
    unfold State.decodeRestart
    split
    · exact h.joinAnswer _ _ _
    · split
      · exact h.joinAnswer _ _ _
      · rename_i hr
        have stage : s.ranker.stage = .idle := Classical.byContradiction fun hs => by
          rw [idleOnly_busy hs] at hr
          cases hr
        have ranker := State.joinAnswer_ranker s f .ok .empty
        exact (h.joinAnswer f .ok .empty).restarting ((congrArg Ranker.stage ranker).trans stage)
          (State.joinAnswer_link_decoding _ _ _ _) _ _ _

theorem DeviceState.service_of_ne_config {x : DeviceState} (h : x ≠ .config) : x = .service := by
  cases x with
  | config => exact absurd rfl h
  | service => rfl

/-- SERVICE_OFF: refused, or taken in SERVICE (R177). -/
theorem State.PassInv.execServiceOff (h : s.PassInv) : LeadsTo (execServiceOff s) State.PassInv := by
  unfold Machine.execServiceOff
  split
  · exact .next h
  · rename_i f hf
    refine .next ?_
    unfold State.decodeServiceOff
    split
    · exact h.joinAnswer _ _ _
    · split
      · exact h.joinAnswer _ _ _
      · rename_i hd
        exact h.deferUntilIdle (State.takesUp_of_takeUp s f _ hf).1 (DeviceState.service_of_ne_config hd) _
          Cause.noConfusion

/-- FRAME_MARK: refused, or accepted in SERVICE (R81). -/
theorem State.PassInv.execFrameMark (h : s.PassInv) : LeadsTo (execFrameMark s) State.PassInv := by
  unfold Machine.execFrameMark
  split
  · exact .next h
  · rename_i f hf
    refine .next ?_
    unfold State.decodeFrameMark
    split
    · exact h.joinAnswer _ _ _
    · split
      · exact h.joinAnswer _ _ _
      · rename_i hd
        split
        · exact h.joinAnswer _ _ _
        · exact h.deferUntilIdle (State.takesUp_of_takeUp s f _ hf).1
            (DeviceState.service_of_ne_config hd) _ Cause.noConfusion

/-- A batch that goes on has its frame, and no RESTART has been accepted (R169, R178). -/
theorem State.batchFrame_some {q : Request} {x : Frame × Option BatchProgress}
    (h : s.batchFrame q = some x) : s.link.accepted ≠ [] ∧ s.link.restart = .none := by
  unfold State.batchFrame State.mayDecode at h
  split at h
  · rename_i hc
    simp only [Bool.and_eq_true, beq_iff_eq] at hc
    obtain ⟨⟨-, restart⟩, -⟩ := hc
    refine ⟨fun ha => ?_, restart⟩
    rw [ha] at h
    cases h
  · cases h

theorem State.PassInv.continueBatch (h : s.PassInv) (hframe : s.link.accepted ≠ [])
    (hrestart : s.link.restart = .none) {apply : List Byte → State → EntryTaken}
    (ha : ∀ (e : List Byte) (s : State), s.OnlyTable (apply e s).state) (f : Frame) (size : Nat)
    (p : BatchProgress) (n : Nat) : (s.continueBatch f size apply p n).PassInv := by
  have taken := State.takeEntries_keeps State.PassInv apply (fun _ h => h.arbitrate)
    (fun es s h => h.alerting (State.onlyAlerts_takeEvents s es)) (fun e s h => h.table (ha e s))
    (((batchEntries size f.body).drop p.taken).take n) p s h
  obtain ⟨-, -, -, -, -, -, -, -, -, -, -, link⟩ := State.takeEntries_footprint apply ha
    (((batchEntries size f.body).drop p.taken).take n) p s
  unfold State.continueBatch
  dsimp only
  split
  · exact State.PassInv.arbitrate ((taken.joinAnswer f _ _).alerting (State.onlyAlerts_takeEvents _ _))
  · exact State.PassInv.arbitrate
      ((taken.pause (by rw [link]; exact hframe) (by rw [link]; exact hrestart) _).alerting
        (State.onlyAlerts_takeEvents _ _))

theorem State.PassInv.runBatch (h : s.PassInv) {apply : List Byte → State → EntryTaken}
    (ha : ∀ (e : List Byte) (s : State), s.OnlyTable (apply e s).state) (q : Request)
    (codesOk : List Byte → Bool) (n : Nat) : LeadsTo (s.runBatch q codesOk apply n) State.PassInv := by
  unfold State.runBatch
  split
  · exact .next h
  · rename_i hb
    obtain ⟨frame, restart⟩ := State.batchFrame_some hb
    exact .next (h.continueBatch frame restart ha _ _ _ _)
  · rename_i hb
    obtain ⟨frame, restart⟩ := State.batchFrame_some hb
    split
    · exact .next (h.joinAnswer _ _ _)
    · split
      · exact .next (h.continueBatch frame restart ha _ _ _ _)
      · exact .next (h.joinAnswer _ _ _)

/-! ### The line and the device resets -/

theorem State.PassInv.putRx (h : s.PassInv) (r : Receiver) : (s.putRx r).PassInv := h

theorem State.PassInv.discardFrame (h : s.PassInv) (a : DeviceAlert) : (s.discardFrame a).PassInv :=
  (h.putRx .hunt).alerting (State.onlyAlerts_latchDevice _ _ _)

theorem State.PassInv.acceptFrame (h : s.PassInv) (f : Frame) : (s.acceptFrame f).PassInv := by
  obtain ⟨idle, flying, building, placing, stopped, waiting, expired, -, restarting⟩ := h
  exact ⟨idle, flying, building, placing, stopped, waiting, expired,
    fun _ => List.append_ne_nil_of_right_ne_nil _ (List.cons_ne_nil _ _), restarting⟩

theorem State.PassInv.receive (h : s.PassInv) (b : Byte) : (s.receive b).PassInv := by
  unfold State.receive
  split
  · split
    · exact h.putRx _
    · exact h
  · split
    · exact h.putRx _
    · split
      · exact h
      · exact h.putRx _
  · split
    · unfold State.receiveHeader
      split
      · split
        · exact h.discardFrame _
        · split <;> exact h.putRx _
      · exact h.putRx _
    · exact h.discardFrame _
  · split
    · unfold State.receiveBody
      split <;> exact h.putRx _
    · exact h.discardFrame _
  · unfold State.receiveCrc
    split
    · exact h.putRx _
    · split
      · exact h.acceptFrame _
      · exact h.discardFrame _

theorem State.PassInv.leaveLine (h : s.PassInv) (t : Transmission) : (s.leaveLine t).PassInv := by
  unfold State.leaveLine
  dsimp only
  split
  · exact h
  · exact h
  · exact h

/-- MESSAGE_SENT: a reset falls due only after an accepted RESTART (R178). -/
theorem State.PassInv.execMessageSent (h : s.PassInv) : LeadsTo (execMessageSent s) State.PassInv := by
  unfold Machine.execMessageSent
  split
  · exact .next h
  · rename_i t _
    have left := h.leaveLine t
    split
    · rename_i hsent
      simp only [State.restartAnswerSent, Bool.and_eq_true, beq_iff_eq] at hsent
      obtain ⟨⟨queued, -⟩, -⟩ := hsent
      obtain ⟨-, -, -, -, -, -, -, -, restarting⟩ := h
      obtain ⟨stage, decoding⟩ := restarting (by rw [queued]; exact RestartPhase.noConfusion)
      obtain ⟨ranker, still⟩ :
          (s.leaveLine t).ranker = s.ranker ∧ (s.leaveLine t).link.decoding = s.link.decoding := by
        unfold State.leaveLine
        dsimp only
        split <;> exact ⟨rfl, rfl⟩
      exact .next (left.restarting ((congrArg Ranker.stage ranker).trans stage)
        (still.trans decoding) (s.leaveLine t).link.accepted (s.leaveLine t).link.rx .resetDue)
    · exact .next left.arbitrate

theorem State.deviceReset_passInv (s : State) (b1 b0 : PinLevel) : (s.deviceReset b1 b0).PassInv := by
  rw [State.deviceReset_eq]
  exact State.reset_passInv

theorem State.holdInReset_passInv (s : State) : s.holdInReset.PassInv :=
  State.passInv_of_idle rfl rfl rfl PlacerStage.noConfusion PlacerStage.noConfusion
    ⟨rfl, fun hne => absurd rfl hne, fun _ => rfl⟩

/-! ### Every command -/

/-- Every command keeps the invariant of the pass. -/
theorem State.PassInv.exec (h : s.PassInv) (c : Instr) : LeadsTo (exec c s) State.PassInv := by
  have answering (s : State) (f : Frame) (r : Result) (d : AnswerData) (h : s.PassInv) :
      (s.joinAnswer f r d).PassInv := h.joinAnswer f r d
  have arbiter (s : State) (h : s.PassInv) : s.arbitrate.PassInv := h.arbitrate
  have discard (s : State) (a : DeviceAlert) (h : s.PassInv) : (s.discardFrame a).PassInv :=
    h.discardFrame a
  have hunt (s : State) (h : s.PassInv) : (s.putRx .hunt).PassInv := h.putRx .hunt
  have request {block : List Byte → State → Reply} (hb : KeepsBeside block) (k : Request) (len : Nat)
      (rule : State → Option Result) : LeadsTo (s.runRequest k len rule block) State.PassInv :=
    State.runRequest_keeps h answering (fun b _ h => h.block hb b) k len rule
  cases c with
  | receiveByte b =>
    refine .next ?_
    split
    · exact (h.receive b).arbitrate
    · exact h
  | framingError => exact execFramingError_keeps h discard hunt (fun _ h => h) arbiter
  | frameIdleTimeout => exact execFrameIdleTimeout_keeps h discard hunt arbiter
  | unknownKindRequest => exact execUnknownKindRequest_keeps h answering
  | status => exact request (fun _ _ => rfl) _ _ _
  | restart => exact h.execRestart
  | serviceOn => exact h.execServiceOn
  | serviceOff => exact h.execServiceOff
  | alertClear => exact request keepsBeside_alertClear _ _ _
  | alertMask => exact request keepsBeside_alertMask _ _ _
  | rateTable => exact request keepsBeside_rateTable _ _ _
  | trackSetup => exact request keepsBeside_trackSetup _ _ _
  | classProfile => exact request keepsBeside_classProfile _ _ _
  | energyTable => exact request keepsBeside_energyTable _ _ _
  | passSetup => exact request keepsBeside_passSetup _ _ _
  | admission => exact request keepsBeside_admission _ _ _
  | release => exact request (keepsBeside_withNamed fun _ _ _ => rfl) _ _ _
  | suspend => exact request (keepsBeside_withNamed suspendBlock_besideBlocks) _ _ _
  | resume => exact request (keepsBeside_withNamed resumeBlock_besideBlocks) _ _ _
  | linkUpdate =>
    exact request (fun b t => keepsBeside_withNamed (linkUpdateFields_besideBlocks b) b t) _ _ _
  | subscriberRead => exact request keepsBeside_subscriberRead _ _ _
  | frameMark => exact h.execFrameMark
  | qualityBatch n => exact h.runBatch State.onlyTable_qualityEntry _ _ n
  | queueBatch n => exact h.runBatch State.onlyTable_queueEntry _ _ n
  | outcomeBatch n => exact h.runBatch State.onlyTable_outcomeEntry _ _ n
  | energyReport => exact request (fun _ _ => rfl) _ _ _
  | monitorSetup =>
    exact execMonitorSetup_keeps h answering fun b _ h => h.block keepsBeside_monitorSetup b
  | monitorSetupBuffer =>
    exact execMonitorSetupBuffer_keeps h answering fun b _ h => h.block keepsBeside_bufferSetup b
  | counterRead => exact request keepsBeside_counterRead _ _ _
  | captureRead => exact request keepsBeside_captureRead _ _ _
  | traceRead => exact request (fun _ _ => rfl) _ _ _
  | traceResume => exact request (fun _ _ => rfl) _ _ _
  | messageSent => exact h.execMessageSent
  | powerOn b1 b0 =>
    refine .next ?_
    split
    · exact h
    · exact s.deviceReset_passInv b1 b0
  | resetLineAssert =>
    refine .next ?_
    split
    · exact h
    · exact s.holdInReset_passInv
  | resetLineRelease b1 b0 =>
    refine .next ?_
    split
    · exact s.deviceReset_passInv b1 b0
    · exact h
  | restartReset b1 b0 =>
    refine .next ?_
    split
    · exact s.deviceReset_passInv b1 b0
    · exact h
  | constructSlot => exact h.constructSlot
  | placeCandidate d begun => exact h.placeCandidateStep d begun
  | deadlineExpiry => exact h.deadlineExpiry
  | lineReturnToIdle => exact .next h

end

/-- Settles O56: the queue of commands is not among what the invariant speaks of, and every command keeps
it. -/
theorem passInvariantKept : Obligations.PassInvariantKept := by
  unfold Obligations.PassInvariantKept step
  intro s t h ht
  cases hp : s.pending with
  | nil =>
    rw [hp] at ht
    cases ht
    exact h
  | cons c cs =>
    rw [hp] at ht
    exact State.PassInv.exec (s := s.withPending cs) h c t ht

end Sys2Proof.Machine

/-! ### CONSTRUCT_SLOT at a slot that adds no candidate (R84, R85, R90) -/

namespace Sys2Proof.Machine

section
variable {s : State} {n : Nat}

/-- A FREE slot is passed over (R84). -/
theorem State.constructAt_of_free (h : (s.slot n).sub = none) : s.constructAt n = s := by
  unfold State.constructAt
  rw [h]

/-- A SUSPENDED or LOST subscriber is seen, and not ACTIVE (R90). -/
theorem State.constructAt_of_inactive {u : Subscriber} (hu : (s.slot n).sub = some u)
    (hlife : u.life ≠ .active) : s.constructAt n = s.putView n (seenView (s.handleAt n) u false) := by
  unfold State.constructAt
  rw [hu]
  dsimp only
  cases hl : u.life with
  | active => exact absurd hl hlife
  | suspended => rfl
  | lost => rfl

/-- A sample age beyond the lost limit is the larger one (R85). -/
theorem State.foundLost_eq_true {u : Subscriber}
    (h : s.ranker.setupCopy.lostLimit < (s.ranker.passIndex - u.tracks.dl.lastSample).toNat
      ∨ s.ranker.setupCopy.lostLimit < (s.ranker.passIndex - u.tracks.ul.lastSample).toNat) :
    s.foundLost u = true :=
  decide_eq_true (lt_max_iff.mpr h)

/-- An ACTIVE subscriber beyond the lost limit becomes LOST (R85). -/
theorem State.constructAt_of_found {u : Subscriber} (hu : (s.slot n).sub = some u)
    (hlife : u.life = .active) (hfound : s.foundLost u = true) :
    s.constructAt n = s.loseSubscriber n u := by
  unfold State.constructAt
  rw [hu]
  dsimp only
  rw [hlife]
  exact if_pos hfound

end

/-- Settles O45: the taking of the slot by its occupant, and then construction moves past it. -/
theorem constructSlotPassesOver : Obligations.ConstructSlotPassesOver := by
  unfold Obligations.ConstructSlotPassesOver
  intro s held building slot n h seen
  rw [execConstructSlot_eq held building slot]
  refine ⟨fun free => ?_, fun u hu => ⟨fun inactive => ?_, fun active aged => ?_⟩⟩
  · rw [State.constructAt_of_free free]
  · rw [State.constructAt_of_inactive hu inactive]
    rfl
  · rw [State.constructAt_of_found hu active (State.foundLost_eq_true aged)]
    rfl

end Sys2Proof.Machine

/-! ### The end of a Placer (R97, R111, R113, R128) -/

namespace Sys2Proof.Machine

section
variable {s : State} {d : Direction} {c : Candidate}

theorem execPlaceCandidate_eq (held : s.link.resetHeld = false) (placing : s.ranker.stage = .placing)
    (running : (s.placers.get d).stage = .running) (begun : Bool) :
    exec (.placeCandidate d begun) s = .next (s.placerStep d begun) :=
  if_pos ⟨placing, running, held⟩

/-- With no candidate left the Placer ends: LIST_DONE, or STOPPED by the cause that stands (R97, R111). -/
theorem State.placerStep_of_done (h : (s.placers.get d).nextCandidate = none) (begun : Bool) :
    s.placerStep d begun = s.endPlacer d (if s.ranker.cause = none then .listDone else .stopped) := by
  unfold State.placerStep
  rw [h]
  cases s.ranker.cause <;> rfl

theorem State.placerStep_of_candidate (hcause : s.ranker.cause = none)
    (h : (s.placers.get d).nextCandidate = some c) (begun : Bool) :
    s.placerStep d begun = (s.placeCandidate d c).arbitrate := by
  unfold State.placerStep
  rw [hcause, h]

/-- A truncation stops the Placer before a candidate it has not begun (R97). -/
theorem State.placerStep_of_cause (hcause : s.ranker.cause.isSome = true) :
    s.placerStep d false = s.endPlacer d .stopped := by
  obtain ⟨k, hk⟩ := Option.isSome_iff_exists.mp hcause
  unfold State.placerStep
  rw [hk]
  cases (s.placers.get d).nextCandidate <;> rfl

/-- A truncation stops the Placer after the candidate it had begun (R97; log 3, log 22). -/
theorem State.placerStep_of_begun (hcause : s.ranker.cause.isSome = true)
    (h : (s.placers.get d).nextCandidate = some c) :
    s.placerStep d true = (s.placeCandidate d c).stopAfter d := by
  obtain ⟨k, hk⟩ := Option.isSome_iff_exists.mp hcause
  unfold State.placerStep
  rw [hk, h]
  rfl

/-- A live ACTIVE candidate that meets an empty pool ends its Placer (R113). -/
theorem State.placeCandidate_of_empty {u : Subscriber} (hlookup : s.lookup c.handle = some u)
    (hlife : u.life = .active) (hpool : (s.placers.get d).pool = 0) :
    s.placeCandidate d c = s.endPlacer d .poolEmpty := by
  have live : s.liveCandidate c = some u := by
    unfold State.liveCandidate
    rw [hlookup]
    exact if_pos hlife
  unfold State.placeCandidate
  rw [live]
  exact if_pos hpool

end

/-- Settles O50: the check of R111 by the cause that stands and the candidate that comes next; `ended` is the
end of the Placer by `State.endPlacer_eq`. -/
theorem placerEnds : Obligations.PlacerEnds := by
  unfold Obligations.PlacerEnds
  intro s d begun held placing running p next ended
  have step := execPlaceCandidate_eq held placing running
  refine ⟨fun none => ⟨fun done => ?_, fun c u hc hu active empty => ?_⟩, fun stands =>
    ⟨fun stops => ?_, fun c hc => ?_⟩⟩
  · rw [step, State.placerStep_of_done done, if_pos none]
    rfl
  · rw [step, State.placerStep_of_candidate none hc, State.placeCandidate_of_empty hu active empty]
    rfl
  · rw [step]
    rcases stops with done | rfl
    · rw [State.placerStep_of_done done, if_neg fun hn => by rw [hn] at stands; cases stands]
      rfl
    · rw [State.placerStep_of_cause stands]
      rfl
  · rw [step, State.placerStep_of_begun stands hc]
    rfl

end Sys2Proof.Machine

/-! ### A construction cut off, as what waits for it finds it (R97 to R101) -/

namespace Sys2Proof.Machine

section
variable (s : State) (c : Cause)

/-- No pass is in flight, the index and the frame of the last one stand, and so does the setup of the next. -/
theorem State.cutConstruction_ranker :
    ((s.cutConstruction c).ranker.stage = .idle ∧ (s.cutConstruction c).ranker.cause = none
        ∧ (s.cutConstruction c).ranker.timer = .idle)
      ∧ (s.cutConstruction c).ranker.newest = s.ranker.newest
      ∧ (s.cutConstruction c).ranker.passIndex = s.ranker.passIndex
      ∧ (s.cutConstruction c).ranker.setup = s.ranker.setup := by
  obtain ⟨a, ranker⟩ := s.cutPlacers_ranker c
  rw [State.cutConstruction_eq, State.complete_ranker, ranker]
  exact ⟨⟨rfl, rfl, rfl⟩, rfl, rfl, rfl⟩

/-- The decoding under way stands, with its frame, the answers and the device state. -/
theorem State.cutConstruction_link :
    (s.cutConstruction c).link.decoding = s.link.decoding
      ∧ (s.cutConstruction c).link.accepted = s.link.accepted
      ∧ (s.cutConstruction c).link.answers = s.link.answers
      ∧ (s.cutConstruction c).link.device = s.link.device := by
  rw [State.cutConstruction_eq, State.complete_link, State.cutPlacers_link]
  exact ⟨rfl, rfl, rfl, rfl⟩

theorem State.cutConstruction_passes :
    (s.cutConstruction c).monitor.passes = s.monitor.passes + 1#32 :=
  (State.complete_passes _).trans (congrArg (· + 1#32) (s.cutPlacers_passes c))

/-- MAP_END alone joins the grant section. -/
theorem State.cutConstruction_grants :
    (s.cutConstruction c).offLine.notices.grants
      = s.offLine.notices.grants
        ++ [⟨.mapEnd (s.cutPlacers c).mapEnd, .waiting, s.ranker.passIndex⟩] := by
  obtain ⟨a, ranker⟩ := s.cutPlacers_ranker c
  have joined := (s.cutPlacers c).complete_grants
  rw [State.cutPlacers_grants, ranker] at joined
  exact joined

theorem State.flush_profiles (d : Direction) : (s.flush d).profiles = s.profiles := by
  obtain ⟨more, rs, q, he, -⟩ := State.flush_shape s d
  rw [he]

theorem State.complete_profiles : s.complete.profiles = s.profiles := by
  obtain ⟨al, more, mo, sl, b, he, rfl, -⟩ := State.complete_footprint s
  rw [he]
  rfl

theorem State.beginPlacement_profiles : s.beginPlacement.profiles = s.profiles :=
  (s.orderLists.onlyAlerts_takeAllowance _).profiles

theorem State.stopPlacers_profiles : s.stopPlacers.profiles = s.profiles :=
  (State.flush_profiles _ .ul).trans (State.flush_profiles _ .dl)

theorem State.cutConstruction_profiles : (s.cutConstruction c).profiles = s.profiles :=
  (State.complete_profiles _).trans
    ((State.stopPlacers_profiles _).trans (State.beginPlacement_profiles _))

/-! #### A message that is being sent goes on being sent (R174) -/

theorem State.complete_tx (h : s.link.tx.isSome = true) : s.complete.link.tx = s.link.tx := by
  obtain ⟨al, more, mo, sl, b, he, rfl, -⟩ := State.complete_footprint s
  rw [he, State.arbitrate_of_busy _ (by exact h)]

theorem State.stopPlacers_tx (h : s.link.tx.isSome = true) : s.stopPlacers.link.tx = s.link.tx := by
  have first := s.stopPlacer_link .dl
  rw [State.stopPlacers, State.stopPlacer_link, State.arbitrate_of_busy _ (by rw [first]; exact h), first]

theorem State.cutConstruction_tx (h : s.link.tx.isSome = true) :
    (s.cutConstruction c).link.tx = s.link.tx := by
  have begun : (State.beginPlacement { s with ranker := { s.ranker with cause := some c } }).link.tx
      = s.link.tx := by
    rw [State.beginPlacement_link]
  have stopped : (s.cutPlacers c).link.tx = s.link.tx :=
    (State.stopPlacers_tx _ (by rw [begun]; exact h)).trans begun
  exact (State.complete_tx (s.cutPlacers c) (by rw [stopped]; exact h)).trans stopped

end

/-- The MAP_END of a construction cut off: its cause, the frame of the pass, no grant, and every candidate
unreached (R98, R105). -/
theorem State.mapEnd_cutConstruction (s : State) (c : Cause) {F : U16} (hF : s.ranker.newest = some F) :
    ((s.cutPlacers c).mapEnd).cause = mapCause (some c)
      ∧ s.ranker.newest = some (s.cutPlacers c).mapEnd.frame
      ∧ ∀ d, ((s.cutPlacers c).mapEnd.figures.get d).grants = 0
          ∧ ((s.cutPlacers c).mapEnd.figures.get d).unreached = (s.ranker.lists.get d).length := by
  obtain ⟨a, ranker⟩ := s.cutPlacers_ranker c
  obtain ⟨n, placers⟩ := s.cutPlacers_placers c
  unfold State.mapEnd State.passFrame
  rw [ranker, placers]
  refine ⟨rfl, ?_, fun d => ?_⟩
  · show s.ranker.newest = some (s.ranker.newest.getD 0#16)
    rw [hF]
    rfl
  · cases d with
    | dl => exact ⟨rfl, (orderCandidates_perm s.passFrame s.ranker.lists.dl).length_eq⟩
    | ul => exact ⟨rfl, (orderCandidates_perm s.passFrame s.ranker.lists.ul).length_eq⟩

end Sys2Proof.Machine

/-! ### SERVICE_OFF (R98, R100, R177) -/

namespace Sys2Proof.Machine

section
variable {s : State} {f : Frame}

/-- The state with the device in CONFIG (R177). -/
def State.inConfig (s : State) : State := { s with link := { s.link with device := .config } }

/-- A SERVICE_OFF that has waited enters CONFIG and is answered OK (R100, R177). -/
theorem State.resolveDeferred_serviceOff (hd : s.link.decoding = .serviceOff)
    (hf : s.link.accepted.head? = some f) :
    s.resolveDeferred = s.inConfig.joinAnswer f .ok .empty := by
  unfold State.resolveDeferred
  rw [hd]
  exact State.answerHead_eq (s := s.inConfig) hf .ok

theorem State.answeredAs_serviceOff (hd : s.link.decoding = .serviceOff)
    (hf : s.link.accepted.head? = some f) :
    s.AnsweredAs s.resolveDeferred f .ok .empty s.inConfig := by
  rw [State.resolveDeferred_serviceOff hd hf]
  exact State.answeredAs_joinAnswer f .ok .empty rfl rfl fun _ => rfl

theorem State.execServiceOff_of_takesUp (h : s.TakesUp f) (hk : f.kind = 0x04#8) (hb : f.body = [])
    (hd : s.link.device = .service) :
    exec .serviceOff s = .next (s.deferUntilIdle .serviceOff .stopped) := by
  show execServiceOff s = _
  unfold execServiceOff
  rw [State.takeUp_of_takesUp s f (fun g => g.kind == Request.serviceOff.code) h (beq_iff_eq.mpr hk)]
  dsimp only
  unfold State.decodeServiceOff
  rw [if_neg (by simp [hb]), if_neg (by rw [hd]; exact DeviceState.noConfusion)]

end

section
variable {s : State} (w : Decoding) (c : Cause)

/-! What a FRAME_MARK or SERVICE_OFF taken up meets, by the stage of the pass (R82, R99, R100). -/

theorem State.deferUntilIdle_of_idle (hs : s.ranker.stage = .idle) :
    s.deferUntilIdle w c = (s.withDecoding w).resolveDeferred := by
  unfold State.deferUntilIdle
  rw [hs]
  rfl

theorem State.deferUntilIdle_of_placing (hs : s.ranker.stage = .placing) :
    s.deferUntilIdle w c
      = { s with
          link := { s.link with decoding := w }
          ranker := { s.ranker with cause := some (s.ranker.cause.getD c) } } := by
  unfold State.deferUntilIdle
  rw [hs]
  exact State.truncate_placing (s.withDecoding w) c hs

theorem State.deferUntilIdle_of_constructing (hs : s.ranker.stage = .constructing)
    (hc : s.ranker.cause = none) :
    s.deferUntilIdle w c = ((s.withDecoding w).cutConstruction c).resolveDeferred := by
  unfold State.deferUntilIdle
  rw [hs]
  exact State.truncate_constructing_eq (s := s.withDecoding w) hs hc c

end

/-- The decoding that has ended on the link of `x` has ended on that of `s`, where it began. -/
theorem State.Answered.of_link {s x t : State} {f : Frame} {r : Result} {d : AnswerData}
    (h : x.Answered t f r d) (hanswers : x.link.answers = s.link.answers)
    (haccepted : x.link.accepted = s.link.accepted)
    (htx : s.link.tx.isSome = true → x.link.tx = s.link.tx) : s.Answered t f r d := by
  obtain ⟨joined, freed, ended, line⟩ := h
  rw [hanswers] at joined
  rw [haccepted] at freed
  exact ⟨joined, freed, ended, fun busy => (line (by rw [htx busy]; exact busy)).trans (htx busy)⟩

section
variable {s t s' : State} {f : Frame} {r : Result} {d : AnswerData} (h : s.AnsweredAs t f r d s')
include h

/-! Beside the answering the blocks are as the request left them. -/

theorem State.AnsweredAs.ranker : t.ranker = s'.ranker := by
  obtain ⟨-, inner, -⟩ := h
  have same : t.inner.ranker = s'.inner.ranker := by rw [inner]
  exact same

theorem State.AnsweredAs.monitor : t.monitor = s'.monitor := by
  obtain ⟨-, inner, -⟩ := h
  have same : t.inner.monitor = s'.inner.monitor := by rw [inner]
  exact same

theorem State.AnsweredAs.device : t.link.device = s'.link.device := by
  obtain ⟨-, inner, -⟩ := h
  have same : t.inner.link.device = s'.inner.link.device := by rw [inner]
  exact same

theorem State.AnsweredAs.grants : t.offLine.notices.grants = s'.offLine.notices.grants := by
  obtain ⟨-, inner, -⟩ := h
  have same : t.inner.notices.grants = s'.inner.notices.grants := by rw [inner]
  exact same

end

/-- Settles O18: by the stage of the pass; a construction cut off is resolved as a SERVICE_OFF that has
waited. -/
theorem serviceOffEntersConfig : Obligations.ServiceOffEntersConfig := by
  unfold Obligations.ServiceOffEntersConfig
  refine ⟨fun s f ht hinv hk hb hd => ?_, fun s f hd hf => State.answeredAs_serviceOff hd hf⟩
  have step := State.execServiceOff_of_takesUp ht hk hb hd
  obtain ⟨-, -, -, -, head⟩ := ht
  refine ⟨fun hs => ?_, fun hs => ?_, fun hs => ?_⟩
  · rw [State.deferUntilIdle_of_idle _ _ hs] at step
    have answered := State.answeredAs_serviceOff (s := s.withDecoding .serviceOff) rfl head
    exact ⟨_, step, answered.congr rfl rfl⟩
  · rw [step, State.deferUntilIdle_of_placing _ _ hs]
  · intro x
    obtain ⟨cause, ⟨F, hF⟩, -⟩ := hinv.of_constructing hs
    rw [State.deferUntilIdle_of_constructing _ _ hs cause] at step
    have passes := (s.withDecoding .serviceOff).cutConstruction_passes .stopped
    have grants := (s.withDecoding .serviceOff).cutConstruction_grants .stopped
    have busy := (s.withDecoding .serviceOff).cutConstruction_tx .stopped
    obtain ⟨⟨stage, noCause, timer⟩, newest, index, -⟩ :=
      (s.withDecoding .serviceOff).cutConstruction_ranker .stopped
    obtain ⟨decoding, accepted, answers, -⟩ :=
      (s.withDecoding .serviceOff).cutConstruction_link .stopped
    obtain ⟨mapCause, frame, figures⟩ :=
      (s.withDecoding .serviceOff).mapEnd_cutConstruction .stopped (F := F) hF
    have answered : x.AnsweredAs x.resolveDeferred f .ok .empty x.inConfig :=
      State.answeredAs_serviceOff decoding ((congrArg List.head? accepted).trans head)
    obtain ⟨ended, -, -⟩ := id answered
    have began : s.Answered x.resolveDeferred f .ok .empty := ended.of_link answers accepted busy
    refine ⟨x.resolveDeferred, _, step, began, answered, answered.device, ?_, ?_, ?_, ?_, ?_,
      ?_, answered.grants.trans grants, mapCause, frame, (figures .dl).1, (figures .ul).1,
      (figures .dl).2, (figures .ul).2⟩
    · rw [answered.ranker]
      exact stage
    · rw [answered.ranker]
      exact noCause
    · rw [answered.ranker]
      exact timer
    · rw [answered.ranker]
      exact newest
    · rw [answered.ranker]
      exact index
    · rw [answered.monitor]
      exact passes

end Sys2Proof.Machine

/-! ### FRAME_MARK with a pass in flight (R82, R98, R99) -/

namespace Sys2Proof.Machine

/-- A frame later than the newest one, if there is one, is accepted (R81). -/
theorem judgeFrame_eq_none {newest : Option U16} {F : U16}
    (h : ∀ n, newest = some n → 1 ≤ (F - n).toNat ∧ (F - n).toNat ≤ 32767) :
    judgeFrame newest F = none := by
  cases newest with
  | none => rfl
  | some n => exact judgeFrame_of_later (later_iff.mpr (h n rfl))

section
variable {s : State} {f : Frame} {F : U16}

/-- A FRAME_MARK that has waited starts its pass as one that meets no pass in flight (R82, R99). -/
theorem State.passStarts_resolveDeferred (hd : s.link.decoding = .frameMark F)
    (hf : s.link.accepted.head? = some f) : s.PassStarts s.resolveDeferred f F := by
  have self : s.withDecoding (.frameMark F) = s := by
    rw [← hd]
    rfl
  have oldest : (s.startPass F).link.accepted.head? = some f := by
    rw [State.startPass_link]
    exact hf
  have answered := s.answeredAs_markedStart f F
  rw [self] at answered
  have resolved : s.resolveDeferred = s.startMarkedPass F := by
    unfold State.resolveDeferred
    rw [hd]
  have started : s.startMarkedPass F
      = if skipsFrames s.ranker.newest F then
          (((s.startPass F).joinAnswer f .ok .empty).takeEvent (frameGapEvent F) none).arbitrate
        else (s.startPass F).joinAnswer f .ok .empty := by
    unfold State.startMarkedPass
    rw [State.answerHead_eq oldest]
  refine ⟨_, answered, fun hnext => ?_, fun n hn htwo hhalf => ?_⟩
  · rw [resolved, started]
    refine if_neg ?_
    rcases hnext with hn | ⟨n, hn, hone⟩
    · rw [hn]
      exact Bool.false_ne_true
    · rw [hn, skipsFrames_iff, hone]
      decide
  · rw [resolved, started, hn]
    exact if_pos (skipsFrames_iff.mpr ⟨htwo, hhalf⟩)

/-- An accepted FRAME_MARK waits for the end of the pass in flight, or starts its pass at once (R82, R99). -/
theorem State.execFrameMark_accepted (h : s.TakesUp f) (hk : f.kind = 0x18#8) (hl : f.body.length = 2)
    (hd : s.link.device = .service) (hj : judgeFrame s.ranker.newest (frameAt f.body 0) = none) :
    exec .frameMark s
      = .next (s.deferUntilIdle (.frameMark (frameAt f.body 0)) .preempted) := by
  rw [State.execFrameMark_of_takesUp h hk]
  unfold State.decodeFrameMark
  rw [if_neg (not_not.mpr hl), if_neg (by rw [hd]; exact DeviceState.noConfusion), hj]

end

/-- Settles O30: by the stage of the pass; a construction cut off is resolved as a FRAME_MARK that has
waited. -/
theorem frameMarkPreemptsPass : Obligations.FrameMarkPreemptsPass := by
  unfold Obligations.FrameMarkPreemptsPass
  refine ⟨?_, fun s f F hd hf => State.passStarts_resolveDeferred hd hf⟩
  intro s f ht hinv hk hl F hlater
  have step (hs : s.ranker.stage ≠ .idle) :=
    State.execFrameMark_accepted ht hk hl (hinv.flies hs).device (judgeFrame_eq_none hlater)
  obtain ⟨-, -, -, -, head⟩ := ht
  refine ⟨fun hs => ?_, fun hs => ?_⟩
  · rw [step (by rw [hs]; exact PassStage.noConfusion), State.deferUntilIdle_of_placing _ _ hs]
  · intro x
    have inFlight : s.ranker.stage ≠ .idle := by
      rw [hs]
      exact PassStage.noConfusion
    obtain ⟨cause, ⟨N, hN⟩, -⟩ := hinv.of_constructing hs
    have step := step inFlight
    rw [State.deferUntilIdle_of_constructing _ _ hs cause] at step
    obtain ⟨⟨stage, -⟩, newest, index, setup⟩ :=
      (s.withDecoding (.frameMark F)).cutConstruction_ranker .preempted
    obtain ⟨decoding, accepted, answers, device⟩ :=
      (s.withDecoding (.frameMark F)).cutConstruction_link .preempted
    obtain ⟨mapCause, frame, figures⟩ :=
      (s.withDecoding (.frameMark F)).mapEnd_cutConstruction .preempted (F := N) hN
    have starts : x.PassStarts x.resolveDeferred f F :=
      State.passStarts_resolveDeferred decoding ((congrArg List.head? accepted).trans head)
    exact ⟨x.resolveDeferred, _, step, starts, answers, accepted,
      device.trans (hinv.flies inFlight).device, stage, index, newest, setup,
      (s.withDecoding (.frameMark F)).cutConstruction_profiles .preempted,
      (s.withDecoding (.frameMark F)).cutConstruction_passes .preempted,
      (s.withDecoding (.frameMark F)).cutConstruction_grants .preempted, mapCause, frame,
      (figures .dl).1, (figures .ul).1, (figures .dl).2, (figures .ul).2⟩

end Sys2Proof.Machine

/-! ### Several latches in one taking (R142, R181) -/

namespace Sys2Proof.Machine

/-- What the general section still has room for (R142). -/
def State.room (s : State) : Nat := 24 - s.notices.general.length

/-- `t` is `s` after latches that offered the notices `offered` in their order and joined the device alerts
`joined` to the set: records and alerts apart, `t` differs from `s` in the notices that the general section had
room for, and NOTICE_LOST is latched when it had none for one of them (R142, R181). -/
structure State.Latches (s t : State) (offered : List GeneralNotice) (joined : DeviceAlert → Bool) :
    Prop where
  frame : t = { s with
    link := { s.link with alerts := t.link.alerts }
    slots := t.slots
    notices := { s.notices with general := t.notices.general } }
  alerts : ∀ k, t.hasAlert k
    = (s.hasAlert k || joined k || (k == .noticeLost && decide (s.room < offered.length)))
  general : t.notices.general
    = s.notices.general ++ (offered.take s.room).map (fun n => ⟨n, .waiting⟩)

/-- No device alert. -/
def noAlert (_ : DeviceAlert) : Bool := false

section
variable {s t r : State} {os ps : List GeneralNotice} {js ks : DeviceAlert → Bool}

theorem State.Latches.refl (s : State) : s.Latches s [] noAlert where
  frame := rfl
  alerts k := by simp [noAlert]
  general := by simp

theorem State.Latches.ranker (h : s.Latches t os js) : t.ranker = s.ranker := by rw [h.frame]

theorem State.Latches.masked (h : s.Latches t os js) (k : AlertKind) : t.masked k = s.masked k := by
  unfold State.masked
  rw [h.frame]

/-- The notices that have joined take their room. -/
theorem State.Latches.room (h : s.Latches t os js) : t.room = s.room - os.length := by
  unfold State.room
  rw [h.general, List.length_append, List.length_map, List.length_take]
  unfold State.room
  omega

/-- Latches follow one another: a notice is lost when the room runs out in the one or the other. -/
theorem State.Latches.trans (h : s.Latches t os js) (h' : t.Latches r ps ks) :
    s.Latches r (os ++ ps) fun k => js k || ks k where
  frame := by
    rw [h'.frame, h.frame]
  alerts k := by
    have lost : decide (s.room < (os ++ ps).length)
        = (decide (s.room < os.length) || decide (s.room - os.length < ps.length)) := by
      rw [List.length_append, ← Bool.decide_or]
      exact decide_eq_decide.mpr (by omega)
    rw [h'.alerts, h.alerts, h.room, lost, Bool.and_or_distrib_left]
    ac_rfl
  general := by
    rw [h'.general, h.general, h.room, List.take_append, List.map_append, List.append_assoc]

/-- The records alone are rewritten. -/
theorem State.latches_slots (s : State) (sl : Vector Slot 96) :
    s.Latches { s with slots := sl } [] noAlert where
  frame := rfl
  alerts := (State.Latches.refl s).alerts
  general := (State.Latches.refl s).general

/-- One notice is offered (R142). -/
theorem State.latches_offerGeneral (s : State) (n : GeneralNotice) :
    s.Latches (s.offerGeneral n) [n] noAlert := by
  by_cases room : s.notices.general.length < 24
  · rw [State.offerGeneral_of_room room]
    refine ⟨rfl, fun k => ?_, ?_⟩
    · rw [decide_eq_false (by simp only [State.room, List.length_singleton]; omega), Bool.and_false]
      simp [noAlert, State.hasAlert]
    · rw [List.take_of_length_le (by simp only [State.room, List.length_singleton]; omega)]
      rfl
  · rw [State.offerGeneral_of_full (Nat.not_lt.mp room)]
    have full : s.room = 0 := by
      unfold State.room
      omega
    refine ⟨rfl, fun k => ?_, ?_⟩
    · rw [State.hasAlert_setAlert, full]
      simp [noAlert]
    · rw [full]
      simp

/-- A device alert joined to its set. -/
theorem State.latches_setAlert (s : State) (a : DeviceAlert) : s.Latches (s.setAlert a) [] (· == a) where
  frame := rfl
  alerts k := by simp [State.hasAlert_setAlert]
  general := by simp

end

/-- A device alert that is latched, with its notice when it is new and not masked (R181). -/
theorem State.latches_latchDevice (s : State) (a : DeviceAlert) (frame : Option U16) :
    s.Latches (s.latchDevice a frame)
      (if !s.hasAlert a && !s.masked (.device a) then
        [.alert { kind := .device a, handle := none, dir := none, frame := frame }] else [])
      (· == a) := by
  unfold State.latchDevice
  cases latched : s.hasAlert a with
  | true =>
    refine ⟨rfl, fun k => ?_, by simp⟩
    by_cases hk : k = a
    · subst hk
      simp [latched]
    · simp [hk]
  | false =>
    cases masked : s.masked (.device a) with
    | true => exact s.latches_setAlert a
    | false =>
      have offered := (s.latches_setAlert a).trans (State.latches_offerGeneral (s.setAlert a)
        (.alert { kind := .device a, handle := none, dir := none, frame := frame }))
      simpa [noAlert] using offered

/-! ### The members a completion latches, slot by slot (R101, R103, R104) -/

/-- An alert set with members joined to it (R18). -/
def joinMembers (alerts : BitVec 7) (ms : List Member) : BitVec 7 :=
  ms.foldl (fun w m => addBit w m.bit) alerts

theorem Subscriber.hasMember_joinMembers (u : Subscriber) (ms : List Member) (k : Member) :
    Subscriber.hasMember { u with alerts := joinMembers u.alerts ms } k
      = (u.hasMember k || decide (k ∈ ms)) := by
  induction ms generalizing u with
  | nil => simp [joinMembers]
  | cons m ms ih =>
    have first := u.hasMember_addBit m k
    refine (ih { u with alerts := addBit u.alerts m.bit }).trans ?_
    rw [first, Bool.or_assoc]
    simp [beq_eq_decide]

/-- A member that is latched already joins its set without effect. -/
theorem addBit_of_hasMember {u : Subscriber} {m : Member} (h : u.hasMember m = true) :
    addBit u.alerts m.bit = u.alerts := by
  refine BitVec.eq_of_getLsbD_eq fun i hi => ?_
  rw [getLsbD_addBit _ _ hi]
  by_cases hm : m.bit = i
  · subst hm
    simp [show u.alerts.getLsbD m.bit = true from h]
  · simp [hm]

/-- The notices of the members of slot `n` that are new to the record and not masked. -/
def State.newNotices (s : State) (n : Nat) (u : Subscriber) (ms : List Member) : List GeneralNotice :=
  (ms.filter fun m => !u.hasMember m && !s.masked m.kind).map (s.memberNotice n)

section
variable {s : State} {n : Nat} {u : Subscriber}

/-- One member latched: the record, the notice, and every other slot. -/
theorem State.latches_latchMember (hu : (s.slot n).sub = some u) (m : Member) :
    s.Latches (s.latchMember n m) (s.newNotices n u [m]) noAlert
      ∧ (s.latchMember n m).slot n
          = { s.slot n with sub := some { u with alerts := addBit u.alerts m.bit } }
      ∧ ∀ k, k ≠ n → (s.latchMember n m).slot k = s.slot k := by
  cases hm : u.hasMember m with
  | true =>
    rw [State.latchMember_of_latched hu hm]
    refine ⟨?_, ?_, fun _ _ => rfl⟩
    · have none : s.newNotices n u [m] = [] := by simp [State.newNotices, hm]
      rw [none]
      exact .refl s
    · rw [addBit_of_hasMember hm, ← hu]
  | false =>
    rw [State.latchMember_of_new hu hm]
    have written := State.joinMember_slot hu m
    have others (k : Nat) (hk : k ≠ n) := s.joinMember_slot_of_ne hk u m
    have joined : s.Latches (s.joinMember n u m) [] noAlert := s.latches_slots _
    cases masked : s.masked m.kind with
    | true =>
      have none : s.newNotices n u [m] = [] := by simp [State.newNotices, masked]
      rw [none]
      exact ⟨joined, written, others⟩
    | false =>
      have one : s.newNotices n u [m] = [s.memberNotice n m] := by
        simp [State.newNotices, hm, masked]
      have offered := joined.trans (State.latches_offerGeneral (s.joinMember n u m) (s.memberNotice n m))
      have slots : ((s.joinMember n u m).offerGeneral (s.memberNotice n m)).slots
          = (s.joinMember n u m).slots :=
        (State.onlyAlerts_offerGeneral _ _).slots
      rw [one]
      exact ⟨offered, (State.slot_congr _ _ slots n).trans written,
        fun k hk => (State.slot_congr _ _ slots k).trans (others k hk)⟩

theorem State.memberNotice_congr {t : State} (hslot : (t.slot n).gen = (s.slot n).gen)
    (hranker : t.ranker = s.ranker) (m : Member) : t.memberNotice n m = s.memberNotice n m := by
  unfold State.memberNotice State.handleAt
  rw [hslot, hranker]

/-- The members of one slot latched in their order, none of them twice. -/
theorem State.latches_latchMembers (ms : List Member) (hms : ms.Nodup) (s : State) (u : Subscriber)
    (hu : (s.slot n).sub = some u) :
    s.Latches (ms.foldl (fun s m => s.latchMember n m) s) (s.newNotices n u ms) noAlert
      ∧ (ms.foldl (fun s m => s.latchMember n m) s).slot n
          = { s.slot n with sub := some { u with alerts := joinMembers u.alerts ms } }
      ∧ ∀ k, k ≠ n → (ms.foldl (fun s m => s.latchMember n m) s).slot k = s.slot k := by
  induction ms generalizing s u with
  | nil => exact ⟨.refl s, by rw [List.foldl_nil, joinMembers, List.foldl_nil, ← hu], fun _ _ => rfl⟩
  | cons m ms ih =>
    obtain ⟨hm, hms⟩ := List.nodup_cons.mp hms
    obtain ⟨latched, written, others⟩ := State.latches_latchMember hu m
    obtain ⟨rest, restWritten, restOthers⟩ := ih hms (s.latchMember n m)
      { u with alerts := addBit u.alerts m.bit } (by rw [written])
    have notices : (s.latchMember n m).newNotices n { u with alerts := addBit u.alerts m.bit } ms
        = s.newNotices n u ms := by
      unfold State.newNotices
      rw [List.map_congr_left fun k _ =>
        State.memberNotice_congr (by rw [written]) latched.ranker k]
      congr 1
      refine List.filter_congr fun k hk => ?_
      have ne : k ≠ m := fun h => hm (h ▸ hk)
      rw [latched.masked, u.hasMember_addBit m k, beq_false_of_ne ne, Bool.or_false]
    have split : s.newNotices n u (m :: ms) = s.newNotices n u [m] ++ s.newNotices n u ms := by
      unfold State.newNotices
      rw [← List.map_append, ← List.filter_append]
      rfl
    rw [notices] at rest
    rw [split]
    refine ⟨latched.trans rest, ?_, fun k hk => (restOthers k hk).trans (others k hk)⟩
    rw [List.foldl_cons, restWritten, written]
    rfl

end

/-! ### The accounting of a slot (R101 to R104) -/

/-- Whether the pass saw the occupant of slot `n` ACTIVE. -/
def State.sawActive (s : State) (n : Nat) : Bool := seenActive (s.view n) (s.handleAt n)

/-- Whether the completion latches a member for the record `u` of slot `n` (R103, R104). -/
def State.completionLatches (s : State) (n : Nat) (u : Subscriber) : Member → Bool
  | .starved d =>
    s.sawActive n && starveLatches (u.service.get d).starve ((s.view n).grant.get d)
      ((s.view n).backlog.get d) s.ranker.setupCopy.starveLimit
  | .shortfall d =>
    s.sawActive n && shortfallLatches (u.service.get d).shortfall
      (fallsShort (s.profileCopy u.cls).kind ((s.profileCopy u.cls).rate.get d) (u.service.get d).credit)
      s.ranker.setupCopy.shortfallLimit
  | .lost => false
  | .linkPoor _ => false

/-- The members a completion may latch, in their order (R101). -/
def completionMembers : List Member := [.starved .dl, .shortfall .dl, .starved .ul, .shortfall .ul]

/-- The members the completion latches for the record `u` of slot `n`, in their order. -/
def State.latchedMembers (s : State) (n : Nat) (u : Subscriber) : List Member :=
  completionMembers.filter (s.completionLatches n u)

/-- The service group of a direction after the completion (R102 to R104). -/
def State.accountedService (s : State) (n : Nat) (u : Subscriber) (d : Direction) : Service :=
  (u.service.get d).accounted s.ranker.setupCopy (s.profileCopy u.cls) (s.view n) (s.handleAt n) d

/-- The record `u` of slot `n` with both service groups accounted. -/
def State.accountedRecord (s : State) (n : Nat) (u : Subscriber) : Subscriber :=
  { u with service := ⟨s.accountedService n u .dl, s.accountedService n u .ul⟩ }

/-- Slot `n` after the completion. -/
def State.accountedSlot (s : State) (n : Nat) : Slot :=
  match (s.slot n).sub with
  | none => s.slot n
  | some u =>
    if u.life = .active then
      { s.slot n with
        sub :=
          some
            { s.accountedRecord n u with
              alerts := joinMembers u.alerts (s.latchedMembers n u) } }
    else s.slot n

/-- The notices that the accounting of slot `n` offers, in their order (R101, R181). -/
def State.slotNotices (s : State) (n : Nat) : List GeneralNotice :=
  match (s.slot n).sub with
  | none => []
  | some u => if u.life = .active then s.newNotices n u (s.latchedMembers n u) else []

/-- What the accounting of a slot reads: the slot, the Ranker and the mask. -/
theorem State.accountedSlot_congr {s t : State} {n : Nat} (hslot : t.slot n = s.slot n)
    (hranker : t.ranker = s.ranker) : t.accountedSlot n = s.accountedSlot n := by
  unfold State.accountedSlot State.accountedRecord State.accountedService State.latchedMembers
    State.completionLatches State.sawActive State.profileCopy State.view State.handleAt
  rw [hslot, hranker]

theorem State.slotNotices_congr {s t : State} {n : Nat} (hslot : t.slot n = s.slot n)
    (hranker : t.ranker = s.ranker) (hmask : ∀ k, t.masked k = s.masked k) :
    t.slotNotices n = s.slotNotices n := by
  unfold State.slotNotices State.newNotices State.memberNotice State.latchedMembers
    State.completionLatches State.sawActive State.profileCopy State.view State.handleAt
  simp only [hslot, hranker, hmask]

section
variable (s : State) (n : Nat) (u : Subscriber)

/-- The members of one direction are those of its two that the completion latches. -/
theorem State.service_latches (d : Direction) :
    (u.service.get d).latches s.ranker.setupCopy (s.profileCopy u.cls) (s.view n) (s.handleAt n) d
      = [.starved d, .shortfall d].filter (s.completionLatches n u) := by
  unfold Service.latches
  simp only [List.filter_cons, List.filter_nil, State.completionLatches, State.sawActive]
  by_cases saw : seenActive (s.view n) (s.handleAt n) = true
  · simp only [saw, Bool.true_and, if_true]
    split <;> split <;> rfl
  · simp [saw]

/-- The accounting of an ACTIVE subscriber: its service groups, and then its members latched. -/
theorem State.accountSlot_of_active (hu : (s.slot n).sub = some u) (hlife : u.life = .active) :
    s.accountSlot n
      = (s.latchedMembers n u).foldl (fun s m => s.latchMember n m)
          (s.putSub n (s.accountedRecord n u)) := by
  have members : s.latchedMembers n u
      = u.service.dl.latches s.ranker.setupCopy (s.profileCopy u.cls) (s.view n) (s.handleAt n) .dl
        ++ u.service.ul.latches s.ranker.setupCopy (s.profileCopy u.cls) (s.view n) (s.handleAt n)
          .ul := by
    have dl := s.service_latches n u .dl
    have ul := s.service_latches n u .ul
    rw [PerDir.get_dl] at dl
    rw [PerDir.get_ul] at ul
    rw [dl, ul, ← List.filter_append]
    rfl
  unfold State.accountSlot
  rw [hu, members]
  exact if_pos hlife

end

/-- The accounting of one slot: its record, its notices, and nothing of another slot. -/
theorem State.latches_accountSlot (s : State) (n : Nat) :
    s.Latches (s.accountSlot n) (s.slotNotices n) noAlert
      ∧ (s.accountSlot n).slot n = s.accountedSlot n
      ∧ ∀ k, k ≠ n → (s.accountSlot n).slot k = s.slot k := by
  cases hu : (s.slot n).sub with
  | none =>
    unfold State.accountSlot State.slotNotices State.accountedSlot
    rw [hu]
    exact ⟨.refl s, rfl, fun _ _ => rfl⟩
  | some u =>
    by_cases hlife : u.life = .active
    · have hn := s.slot_lt_of_sub n u hu
      have nodup : (s.latchedMembers n u).Nodup := List.Nodup.filter _ (by decide)
      have written (k : Nat) := s.slot_putSub n k (s.accountedRecord n u)
      have here := (written n).trans (if_pos ⟨rfl, hn⟩)
      obtain ⟨latched, joined, others⟩ := State.latches_latchMembers (n := n) (s.latchedMembers n u) nodup
        (s.putSub n (s.accountedRecord n u)) _ (by rw [here])
      rw [s.accountSlot_of_active n u hu hlife]
      unfold State.slotNotices State.accountedSlot
      rw [hu]
      dsimp only
      rw [if_pos hlife, if_pos hlife]
      refine ⟨?_, ?_, fun k hk => (others k hk).trans ?_⟩
      · have put : s.Latches (s.putSub n (s.accountedRecord n u)) [] noAlert := s.latches_slots _
        have notices : (s.putSub n (s.accountedRecord n u)).newNotices n (s.accountedRecord n u)
            (s.latchedMembers n u) = s.newNotices n u (s.latchedMembers n u) :=
          List.map_congr_left fun m _ =>
            State.memberNotice_congr (s := s) (t := s.putSub n (s.accountedRecord n u))
              (by rw [here]) rfl m
        rw [notices] at latched
        exact put.trans latched
      · rw [joined, here]
        rfl
      · rw [written, if_neg fun hc => hk hc.1.symm]
    · unfold State.accountSlot State.slotNotices State.accountedSlot
      rw [hu]
      dsimp only
      rw [if_neg hlife, if_neg hlife, if_neg hlife]
      exact ⟨.refl s, rfl, fun _ _ => rfl⟩

/-- The accounting of several slots, none of them twice. -/
theorem State.latches_accountSlots (ns : List Nat) (hns : ns.Nodup) (s : State) :
    s.Latches (ns.foldl State.accountSlot s) (ns.flatMap s.slotNotices) noAlert
      ∧ ∀ k, (ns.foldl State.accountSlot s).slot k
          = if k ∈ ns then s.accountedSlot k else s.slot k := by
  induction ns generalizing s with
  | nil => exact ⟨.refl s, fun _ => rfl⟩
  | cons n ns ih =>
    obtain ⟨hn, hns⟩ := List.nodup_cons.mp hns
    obtain ⟨latched, written, others⟩ := s.latches_accountSlot n
    obtain ⟨rest, slots⟩ := ih hns (s.accountSlot n)
    have apart {k : Nat} (hk : k ∈ ns) : k ≠ n := fun h => hn (h ▸ hk)
    have notices : ns.flatMap (s.accountSlot n).slotNotices = ns.flatMap s.slotNotices :=
      List.flatMap_congr fun k hk =>
        State.slotNotices_congr (others k (apart hk)) latched.ranker latched.masked
    rw [notices] at rest
    refine ⟨latched.trans rest, fun k => (slots k).trans ?_⟩
    by_cases hk : k ∈ ns
    · rw [if_pos hk, if_pos (List.mem_cons_of_mem n hk)]
      exact State.accountedSlot_congr (others k (apart hk)) latched.ranker
    · rw [if_neg hk]
      by_cases hkn : k = n
      · subst hkn
        rw [written, if_pos List.mem_cons_self]
      · rw [if_neg (by simp [hkn, hk]), others k hkn]

end Sys2Proof.Machine

/-! ### The completion of a pass (R101 to R105, R138) -/

namespace Sys2Proof.Machine

/-! #### What is counted of a direction of a slot, clause by clause -/

section
variable (s : State) (n : Nat) (u : Subscriber) (d : Direction)

/-- Seen waiting with data and not granted (R103). -/
def State.sawWaiting : Bool :=
  s.sawActive n && ((s.view n).grant.get d).isNone && decide (0 < (s.view n).backlog.get d)

/-- The payload granted to the occupant that the pass saw (R102). -/
def State.servedPayload : Nat :=
  if decide ((s.view n).seen = some (s.handleAt n)) then
    (((s.view n).grant.get d).map GrantView.payload).getD 0
  else 0

theorem State.servedPayload_eq : s.servedPayload n d = viewPayload (s.view n) (s.handleAt n) d := by
  unfold State.servedPayload viewPayload
  simp only [decide_eq_true_eq]

/-- Seen ACTIVE and short of its guaranteed rate (R104). -/
def State.sawShort : Bool :=
  s.sawActive n
    && decide ((s.profileCopy u.cls).kind = .guaranteed ∧ 0 < (s.profileCopy u.cls).rate.get d
      ∧ 4 * (((s.profileCopy u.cls).rate.get d : Nat) : Int) ≤ (u.service.get d).credit)

theorem State.sawShort_eq :
    s.sawShort n u d
      = (s.sawActive n
          && fallsShort (s.profileCopy u.cls).kind ((s.profileCopy u.cls).rate.get d)
            (u.service.get d).credit) := by
  unfold fallsShort State.sawShort
  simp only [Bool.and_assoc, Bool.decide_and, beq_eq_decide]

theorem State.completionLatches_starved :
    s.completionLatches n u (.starved d)
      = (s.sawWaiting n d
          && decide (s.ranker.setupCopy.starveLimit ≤ (u.service.get d).starve + 1)) := by
  unfold State.completionLatches starveLatches starves State.sawWaiting
  simp only [Bool.and_assoc]

theorem State.completionLatches_shortfall :
    s.completionLatches n u (.shortfall d)
      = (s.sawShort n u d
          && decide (s.ranker.setupCopy.shortfallLimit ≤ (u.service.get d).shortfall + 1)) := by
  rw [State.sawShort_eq, Bool.and_assoc]
  rfl

/-- The service group of a direction after the completion (R102 to R104). -/
theorem State.accountedService_eq :
    s.accountedService n u d
      = { u.service.get d with
          avg :=
            min 1048575
              ((u.service.get d).avg - (u.service.get d).avg / 2 ^ s.ranker.setupCopy.k
                + s.servedPayload n d * 16 / 2 ^ s.ranker.setupCopy.k)
          starve :=
            if s.sawActive n && ((s.view n).grant.get d).isSome then 0
            else if s.completionLatches n u (.starved d) then 0
            else if s.sawWaiting n d then (u.service.get d).starve + 1
            else (u.service.get d).starve
          shortfall :=
            if s.sawActive n then
              (if s.completionLatches n u (.shortfall d) then 0
              else if s.sawShort n u d then (u.service.get d).shortfall + 1 else 0)
            else (u.service.get d).shortfall } := by
  rw [State.completionLatches_starved, State.completionLatches_shortfall]
  unfold State.accountedService Service.accounted
  rw [← State.servedPayload_eq]
  congr 1
  · show (if s.sawActive n then _ else _) = _
    unfold State.sawWaiting starveAfter
    cases s.sawActive n with
    | false => simp
    | true =>
      cases (s.view n).grant.get d with
      | some g => simp
      | none => by_cases waits : 0 < (s.view n).backlog.get d <;> simp [waits]
  · show (if s.sawActive n then _ else _) = _
    rw [State.sawShort_eq]
    unfold shortfallAfter
    cases s.sawActive n with
    | false => simp
    | true =>
      cases fallsShort (s.profileCopy u.cls).kind ((s.profileCopy u.cls).rate.get d)
        (u.service.get d).credit <;> simp

end

/-- A pass that its timer truncated latches DEADLINE, with its notice (R97). -/
theorem State.latches_latchDeadline (s : State) :
    s.Latches s.latchDeadline
      (if decide (s.ranker.cause = some .deadline) && !s.hasAlert .deadline
          && !s.masked (.device .deadline) then
        [.alert { kind := .device .deadline, handle := none, dir := none, frame := s.ranker.newest }]
      else [])
      (fun k => k == .deadline && decide (s.ranker.cause = some .deadline)) := by
  unfold State.latchDeadline
  by_cases cause : s.ranker.cause = some .deadline
  · have latched := s.latches_latchDevice .deadline s.ranker.newest
    simpa [cause] using latched
  · simp only [cause, decide_false, Bool.false_and, Bool.and_false]
    exact .refl s

/-- The state of a completion whose events are still to be taken (R101, R105). -/
def State.passClosed (s : State) : State :=
  let s1 := s.account.latchDeadline.queueGrant (.mapEnd s.mapEnd) s.ranker.passIndex
  { s1 with
    ranker := s1.ranker.finished
    monitor := s1.monitor.countPass s.placers.dl.tiles s.placers.ul.tiles }

theorem State.complete_eq (s : State) :
    s.complete = (s.passClosed.takeEvents s.completionEvents).arbitrate := rfl

/-- The latches of a completion: slot by slot, and then DEADLINE (R101). -/
theorem State.latches_account (s : State) :
    s.Latches s.account.latchDeadline
      ((List.range 96).flatMap s.slotNotices
        ++ if decide (s.ranker.cause = some .deadline) && !s.hasAlert .deadline
            && !s.masked (.device .deadline) then
          [.alert { kind := .device .deadline, handle := none, dir := none, frame := s.ranker.newest }]
        else [])
      (fun k => k == .deadline && decide (s.ranker.cause = some .deadline)) := by
  obtain ⟨accounted, -⟩ := State.latches_accountSlots (List.range 96) List.nodup_range s
  have latched := s.account.latches_latchDeadline
  have alert : s.account.hasAlert .deadline = s.hasAlert .deadline := by
    refine (accounted.alerts .deadline).trans ?_
    simp [noAlert]
  have masked : s.account.masked (.device .deadline) = s.masked (.device .deadline) :=
    accounted.masked _
  have ranker : s.account.ranker = s.ranker := accounted.ranker
  rw [alert, masked, ranker] at latched
  exact accounted.trans latched

theorem State.account_slot (s : State) (n : Nat) :
    s.account.latchDeadline.slot n = s.accountedSlot n := by
  obtain ⟨-, slots⟩ := State.latches_accountSlots (List.range 96) List.nodup_range s
  have alerting : s.account.latchDeadline.slots = s.account.slots := by
    unfold State.latchDeadline
    split
    · exact (State.onlyAlerts_latchDevice _ _ _).slots
    · rfl
  refine (State.slot_congr _ _ alerting n).trans ((slots n).trans ?_)
  split
  · rfl
  · rename_i hn
    have free : (s.slot n).sub = none := by
      rw [s.slot_above n (by simpa using hn)]
      rfl
    unfold State.accountedSlot
    rw [free]

/-- Before its events a completion has changed the records, the alerts, the notices, the Ranker's stage, cause
and timer, and the fixed counters. -/
theorem State.passClosed_eq (s : State) :
    s.passClosed
      = { s with
          link := { s.link with alerts := s.passClosed.link.alerts }
          slots := s.passClosed.slots
          ranker := s.ranker.finished
          notices :=
            { s.notices with
              grants := s.passClosed.notices.grants
              general := s.passClosed.notices.general }
          monitor := s.monitor.countPass s.placers.dl.tiles s.placers.ul.tiles } := by
  have frame := s.latches_account.frame
  unfold State.passClosed
  generalize s.account.latchDeadline = t at frame ⊢
  rw [frame]
  rfl

theorem State.passClosed_grants (s : State) :
    s.passClosed.notices.grants
      = s.notices.grants ++ [⟨.mapEnd s.mapEnd, .waiting, s.ranker.passIndex⟩] := by
  have grants : s.account.latchDeadline.notices.grants = s.notices.grants := by
    rw [s.latches_account.frame]
  show s.account.latchDeadline.notices.grants ++ _ = _
  rw [grants]

theorem State.passClosed_hasAlert (s : State) (k : DeviceAlert) :
    s.passClosed.hasAlert k = s.account.latchDeadline.hasAlert k := by
  unfold State.passClosed
  generalize s.account.latchDeadline = t
  rfl

theorem State.passClosed_general (s : State) :
    s.passClosed.notices.general = s.account.latchDeadline.notices.general := by
  unfold State.passClosed
  generalize s.account.latchDeadline = t
  rfl

theorem State.passClosed_slot (s : State) (n : Nat) : s.passClosed.slot n = s.accountedSlot n := by
  rw [← s.account_slot n]
  unfold State.passClosed
  generalize s.account.latchDeadline = t
  rfl

/-- The MAP_END of the pass of frame `frame` (R105, R138). -/
theorem State.mapEnd_eq {s : State} {frame : U16} (h : s.ranker.newest = some frame) :
    s.mapEnd
      = { frame := frame
          cause :=
            match s.ranker.cause with
            | none => .complete
            | some .deadline => .deadline
            | some .preempted => .preempted
            | some .stopped => .stopped
          figures := ⟨s.placers.dl.figures, s.placers.ul.figures⟩
          budget := s.ranker.allowance.budget
          spent := s.dlSpent
          segment := s.ranker.allowance.segment
          carriers := s.ranker.allowance.carriers } := by
  unfold State.mapEnd State.passFrame
  rw [h]
  rfl

section
variable {s : State} {n : Nat}

theorem State.accountedSlot_of_inactive (h : ∀ u, (s.slot n).sub = some u → u.life ≠ .active) :
    s.accountedSlot n = s.slot n := by
  unfold State.accountedSlot
  split
  · rfl
  · rename_i u hu
    exact if_neg (h u hu)

theorem State.accountedSlot_of_active {u : Subscriber} (hu : (s.slot n).sub = some u)
    (hlife : u.life = .active) :
    s.accountedSlot n
      = { s.slot n with
          sub :=
            some
              { s.accountedRecord n u with
                alerts := joinMembers u.alerts (s.latchedMembers n u) } } := by
  unfold State.accountedSlot
  rw [hu]
  exact if_pos hlife

/-- The members latched are those whose rule the completion finds. -/
theorem State.mem_latchedMembers {u : Subscriber} {m : Member} :
    m ∈ s.latchedMembers n u ↔ s.completionLatches n u m = true := by
  have listed (h : s.completionLatches n u m = true) : m ∈ completionMembers := by
    cases m with
    | starved d => cases d <;> decide
    | shortfall d => cases d <;> decide
    | lost => cases h
    | linkPoor d => cases h
  rw [State.latchedMembers, List.mem_filter]
  exact ⟨fun h => h.2, fun h => ⟨listed h, h⟩⟩

end

/-- Settles O52: the records, alerts and notices are those of `State.latches_account`, read in the clauses of
the statement; what the completion writes besides is `State.passClosed_eq`. -/
theorem completionKeepsAccounts : Obligations.CompletionKeepsAccounts := by
  unfold Obligations.CompletionKeepsAccounts
  intro s frame hframe setup left figures unreached truncation handle own seen waited starved short shortfall
    latches payload after notice slotNotices timedOut offered room
  have closed := s.latches_account
  have reasons (n : Nat) (u : Subscriber) (m : Member) : s.completionLatches n u m = latches n u m := by
    cases m with
    | starved d => exact s.completionLatches_starved n u d
    | shortfall d => exact s.completionLatches_shortfall n u d
    | lost => rfl
    | linkPoor d => rfl
  have notices : s.slotNotices = slotNotices := by
    funext n
    simp only [slotNotices]
    unfold State.slotNotices State.newNotices State.latchedMembers
    cases (s.slot n).sub with
    | none => rfl
    | some u =>
      dsimp only
      split
      · have chosen (m : Member) : (!u.hasMember m && !s.masked m.kind && s.completionLatches n u m)
            = (latches n u m && !u.hasMember m && !s.masked m.kind) := by
          rw [reasons, Bool.and_comm, Bool.and_assoc]
        rw [List.filter_filter, List.filter_congr fun m _ => chosen m]
        unfold State.memberNotice
        rw [hframe]
        rfl
      · rfl
  have all : (List.range 96).flatMap s.slotNotices
        ++ (if decide (s.ranker.cause = some .deadline) && !s.hasAlert .deadline
            && !s.masked (.device .deadline) then
          [.alert { kind := .device .deadline, handle := none, dir := none, frame := s.ranker.newest }]
        else []) = offered := by
    rw [notices, hframe]
  rw [all] at closed
  refine ⟨s.passClosed, ?_, s.passClosed_eq, ?_, ?_, ?_, ?_, ?_⟩
  · rw [State.complete_eq]
    unfold State.completionEvents
    rw [hframe]
    rfl
  · intro k
    rw [State.passClosed_hasAlert]
    exact closed.alerts k
  · rw [State.passClosed_general]
    exact closed.general
  · rw [State.passClosed_grants, State.mapEnd_eq hframe]
    rfl
  · intro n inactive
    rw [State.passClosed_slot, State.accountedSlot_of_inactive inactive]
  · intro n u hu active
    refine ⟨joinMembers u.alerts (s.latchedMembers n u), ?_, fun m => ?_⟩
    · rw [State.passClosed_slot, State.accountedSlot_of_active hu active]
      have service (d : Direction) : s.accountedService n u d = after n u d := by
        rw [State.accountedService_eq, reasons, reasons]
        rfl
      unfold State.accountedRecord
      rw [service, service]
    · rw [Subscriber.hasMember_joinMembers, ← reasons]
      congr 1
      exact Bool.eq_iff_iff.mpr (decide_eq_true_iff.trans State.mem_latchedMembers)

end Sys2Proof.Machine

/-! ### A candidate skipped or granted (R111 to R127) -/

namespace Sys2Proof.Machine

/-! #### The tile count (R114 to R118) -/

theorem Candidate.want_eq (c : Candidate) (d : Direction) :
    c.want d
      = let whole := min ((c.backlog + c.r - 1) / c.r) c.maxTiles
        if c.kind = .poll then 1 else if d = .dl then whole else min whole c.ulCap := by
  unfold Candidate.want
  cases c.kind with
  | poll => rfl
  | data => cases d <;> rfl

/-- Nothing can be afforded in a direction: the budget pays for no tile, or the cap allows none (R116). -/
def Candidate.Dry (c : Candidate) (d : Direction) (budget : Nat) : Prop :=
  (d = .dl ∧ budget / c.dlCost = 0) ∨ (d = .ul ∧ c.ulCap = 0)

/-- The tiles that the want, the budget on the downlink, and the pool leave a candidate (R114 to R117). -/
def Candidate.tiles (c : Candidate) (d : Direction) (pool budget : Nat) : Nat :=
  if d = .dl then min (min (c.want d) (budget / c.dlCost)) pool else min (c.want d) pool

section
variable {c : Candidate} {d : Direction} {pool budget : Nat}

theorem Candidate.tileCount_of_dry (h : c.Dry d budget) : c.tileCount d pool budget = .power := by
  rcases h with ⟨rfl, hb⟩ | ⟨rfl, hcap⟩
  · exact if_pos hb
  · exact if_pos hcap

/-- What can be afforded is judged by the sliver rule (R118). -/
theorem Candidate.tileCount_of_not_dry (h : ¬c.Dry d budget) :
    c.tileCount d pool budget = c.sliverRule d (c.tiles d pool budget) := by
  cases d with
  | dl => exact if_neg fun hb => h (.inl ⟨rfl, hb⟩)
  | ul => exact if_neg fun hcap => h (.inr ⟨rfl, hcap⟩)

end

/-! #### The verdict on a candidate (R111, R112, R118) -/

section
variable {s : State} {d : Direction} {c : Candidate} {u : Subscriber}

theorem State.liveCandidate_of_active (hu : s.lookup c.handle = some u) (active : u.life = .active) :
    s.liveCandidate c = some u := by
  unfold State.liveCandidate
  rw [hu]
  exact if_pos active

theorem State.liveCandidate_of_gone (h : ∀ u, s.lookup c.handle = some u → u.life ≠ .active) :
    s.liveCandidate c = none := by
  unfold State.liveCandidate
  split
  · rename_i v hv
    exact if_neg (h v hv)
  · rfl

theorem State.placeCandidate_of_gone (h : ∀ u, s.lookup c.handle = some u → u.life ≠ .active) :
    s.placeCandidate d c = s.skipCandidate d c .skipGone .skipGone 0 := by
  unfold State.placeCandidate
  rw [State.liveCandidate_of_gone h]

section
variable (hu : s.lookup c.handle = some u) (active : u.life = .active)
  (pool : (s.placers.get d).pool ≠ 0)
include hu active pool

theorem State.placeCandidate_of_dry (dry : c.Dry d s.dlBudget) :
    s.placeCandidate d c = s.skipCandidate d c .skipPower .skipPower 0 := by
  unfold State.placeCandidate
  rw [State.liveCandidate_of_active hu active]
  dsimp only
  rw [if_neg pool, Candidate.tileCount_of_dry dry]

theorem State.placeCandidate_of_not_dry (dry : ¬c.Dry d s.dlBudget) :
    s.placeCandidate d c
      = let t := c.tiles d (s.placers.get d).pool s.dlBudget
        if t < c.minTiles ∧ t < c.want d then s.skipCandidate d c .skipSliver .skipSliver t
        else s.grantCandidate d c u t := by
  unfold State.placeCandidate
  rw [State.liveCandidate_of_active hu active]
  dsimp only
  rw [if_neg pool, Candidate.tileCount_of_not_dry dry]
  unfold Candidate.sliverRule
  by_cases sliver : c.tiles d (s.placers.get d).pool s.dlBudget < c.minTiles
      ∧ c.tiles d (s.placers.get d).pool s.dlBudget < c.want d
  · rw [if_pos sliver, if_pos sliver]
  · rw [if_neg sliver, if_neg sliver]

end

/-- With no cause standing the candidate is taken, and the arbiter chooses (R111). -/
theorem execPlaceCandidate_of_candidate (held : s.link.resetHeld = false)
    (placing : s.ranker.stage = .placing) (running : (s.placers.get d).stage = .running)
    (next : (s.placers.get d).list[(s.placers.get d).next - 1]? = some c) (begun : Bool)
    (cause : s.ranker.cause = none) :
    exec (.placeCandidate d begun) s = .next (s.placeCandidate d c).arbitrate := by
  rw [execPlaceCandidate_eq held placing running, State.placerStep_of_candidate cause next]

/-- A skip is the Placer moved on, and the decision reported with the frame of the pass (R112, R127). -/
theorem State.skipCandidate_eq {frame : U16} (hframe : s.ranker.newest = some frame) (k : EventKind)
    (r : TraceResult) (tiles : Nat) :
    s.skipCandidate d c k r tiles
      = State.takeEvent (s.skippedAt d)
          { kind := k, dir := some d, who := some ⟨c.handle, c.cls⟩, frame := some frame }
          (some
            { frame := frame, dir := d, handle := c.handle, result := r, tiles := tiles,
              tier := c.tier }) := by
  unfold State.skipCandidate State.reportDecision State.passFrame
  rw [State.putPlacer_ranker, hframe]
  rfl

end

/-- Settles O48: each skip is the verdict of the live check or of the tile count, and a skip moves the Placer
on and reports. -/
theorem placerSkips : Obligations.PlacerSkips := by
  unfold Obligations.PlacerSkips
  intro s d begun c frame held placing running hframe next p skips whole want t dry
  have skipped {k : EventKind} {r : TraceResult} {tiles : Nat}
      (h : s.placeCandidate d c = s.skipCandidate d c k r tiles) : skips k r tiles :=
    ⟨h.trans (State.skipCandidate_eq hframe k r tiles),
      execPlaceCandidate_of_candidate held placing running next begun⟩
  have tiles : c.tiles d p.pool s.dlBudget = t := by
    unfold Candidate.tiles
    rw [c.want_eq]
  refine ⟨fun gone => skipped (State.placeCandidate_of_gone gone), fun u hu active pool =>
    ⟨fun hdry => skipped (State.placeCandidate_of_dry hu active pool hdry), fun hdry least less => ?_⟩⟩
  refine skipped ((State.placeCandidate_of_not_dry hu active pool hdry).trans ?_)
  dsimp only
  rw [tiles]
  exact if_pos ⟨least, by rw [c.want_eq]; exact less⟩

/-! #### Where the tiles lie, and what a grant writes (R119 to R127) -/

/-- The fill pointer moves on from the end of carrier 0 of a two-carrier pass (R119). -/
theorem pointerAt_eq (carriers carrier tile : Nat) :
    pointerAt carriers carrier tile
      = let moves := 24 ≤ tile ∧ carrier = 0 ∧ carriers = 2
        (if moves then 1 else carrier, if moves then 0 else tile) := by
  unfold pointerAt Config.carrierTiles
  dsimp only
  split <;> rfl

section
variable {p : Placer} {t : Nat} (x : Bool)

/-- Tiles that end in the carrier of the fill pointer are one run (R119 to R121). -/
theorem layOut_of_fits (fits : t ≤ 24 - p.ptrTile) :
    layOut p t x
      = let guarded := x && decide (p.ptrTile + t < 24)
        let guards := if guarded then 1 else 0
        let tile := p.ptrTile + t + guards
        let moves := 24 ≤ tile ∧ p.ptrCarrier = 0 ∧ p.carriers = 2
        { run1 := ⟨p.ptrCarrier, p.ptrTile, t, guarded⟩, run2 := none, guards := guards
          ptrCarrier := if moves then 1 else p.ptrCarrier, ptrTile := if moves then 0 else tile } := by
  unfold layOut
  refine (if_pos fits).trans ?_
  dsimp only
  rw [pointerAt_eq]

/-- Tiles beyond the end of carrier 0 are a second run on carrier 1 (R119 to R121). -/
theorem layOut_of_spills (spills : 24 - p.ptrTile < t) :
    layOut p t x
      = let room := 24 - p.ptrTile
        let guarded := x && decide (t - room < 24)
        let guards := if guarded then 1 else 0
        { run1 := ⟨p.ptrCarrier, p.ptrTile, room, false⟩, run2 := some ⟨1, 0, t - room, guarded⟩
          guards := guards, ptrCarrier := 1, ptrTile := t - room + guards } :=
  if_neg (Nat.not_le.mpr spills)

end

/-- The runs of an uplink grant alone are guarded, and those of an extended-range subscriber (R121). -/
theorem State.layoutFor_layOut (s : State) (d : Direction) (c : Candidate) (t : Nat) :
    s.layoutFor d c t = layOut (s.placers.get d) t (decide (d = .ul) && c.extended) := by
  cases d <;> rfl

/-- The layout of a grant: the run that fits before the end of the carrier, the rest on carrier 1, and a guard
tile after an extended-range uplink run that does not end its carrier (R119 to R121). -/
theorem State.layoutFor_eq (s : State) (d : Direction) (c : Candidate) (t : Nat) :
    s.layoutFor d c t
      = let p := s.placers.get d
        let room := 24 - p.ptrTile
        let guard1 := decide (d = .ul ∧ t ≤ room ∧ p.ptrTile + t < 24) && c.extended
        let guard2 := decide (d = .ul ∧ room < t ∧ t - room < 24) && c.extended
        let guards := if guard1 || guard2 then 1 else 0
        let tile := if t ≤ room then p.ptrTile + t + guards else t - room + guards
        let moves := t ≤ room ∧ 24 ≤ tile ∧ p.ptrCarrier = 0 ∧ p.carriers = 2
        { run1 := ⟨p.ptrCarrier, p.ptrTile, min t room, guard1⟩
          run2 := if t ≤ room then none else some ⟨1, 0, t - room, guard2⟩
          guards := guards
          ptrCarrier := if t ≤ room then (if moves then 1 else p.ptrCarrier) else 1
          ptrTile := if moves then 0 else tile } := by
  rw [State.layoutFor_layOut]
  by_cases fits : t ≤ 24 - (s.placers.get d).ptrTile
  · have short : ¬24 - (s.placers.get d).ptrTile < t := Nat.not_lt.mpr fits
    rw [layOut_of_fits _ fits]
    simp only [fits, short, if_true, true_and, false_and, and_false, min_eq_left, decide_false,
      Bool.false_and, Bool.or_false, Bool.decide_and, Bool.and_right_comm]
  · have spills : 24 - (s.placers.get d).ptrTile < t := Nat.not_le.mp fits
    rw [layOut_of_spills _ spills]
    simp only [fits, spills, spills.le, if_false, true_and, false_and, and_false, min_eq_right,
      decide_false, Bool.false_and, Bool.false_or, Bool.decide_and, Bool.and_right_comm]

theorem Candidate.payload_eq (c : Candidate) (t : Nat) :
    c.payload t = if c.kind = .poll then 0 else min c.backlog (t * c.r) := by
  unfold Candidate.payload
  cases c.kind <;> rfl

theorem grantEvent_eq (k : GrantKind) :
    grantEvent k
      = (if k = .poll then .pollGrant else .grant, if k = .poll then .poll else .granted) := by
  cases k <;> rfl

/-- A record handed to its assembler leaves the Ranker. -/
theorem State.handRecord_ranker (s : State) (d : Direction) (g : GrantRecord) :
    (s.handRecord d g).ranker = s.ranker := by
  obtain ⟨more, rs, q, he, -⟩ := State.handRecord_shape s d g
  rw [he]

/-- What a grant of `t` tiles laid out as `l` writes to the record, the slot view, the Placer and the downlink
budget, before its grant record is handed on (R119, R123 to R125). -/
def State.grantWritten (s : State) (d : Direction) (c : Candidate) (u : Subscriber) (t : Nat)
    (l : Layout) : State :=
  let spent := if d = .dl then t * c.dlCost else 0
  { s.putSub c.handle.slot (s.grantedRecord u c d t) with
    ranker :=
      { s.ranker with
        views :=
          s.ranker.views.setIfInBounds c.handle.slot
            ((s.view c.handle.slot).granted d t (c.payload t)) }
    placers := s.placers.put d ((s.placers.get d).granted t l)
    dlBudget := s.dlBudget - spent
    dlSpent := s.dlSpent + spent }

/-- A grant is its writes, the grant record handed on, and the decision reported (R122 to R127). -/
theorem State.grantCandidate_written (s : State) (d : Direction) (c : Candidate) (u : Subscriber)
    (t : Nat) :
    s.grantCandidate d c u t
      = State.reportDecision
          ((s.grantWritten d c u t (s.layoutFor d c t)).handRecord d
            (s.grantRecord c d t (s.layoutFor d c t)))
          d c (grantEvent c.kind).1 (grantEvent c.kind).2 t := by
  cases d <;> rfl

/-- The same, the report with the frame of the pass. -/
theorem State.grantCandidate_eq {s : State} {frame : U16} (hframe : s.ranker.newest = some frame)
    (d : Direction) (c : Candidate) (u : Subscriber) (t : Nat) :
    s.grantCandidate d c u t
      = State.takeEvent
          ((s.grantWritten d c u t (s.layoutFor d c t)).handRecord d
            (s.grantRecord c d t (s.layoutFor d c t)))
          { kind := (grantEvent c.kind).1, dir := some d, who := some ⟨c.handle, c.cls⟩,
            frame := some frame }
          (some
            { frame := frame, dir := d, handle := c.handle, result := (grantEvent c.kind).2, tiles := t,
              tier := c.tier }) := by
  have newest : ((s.grantWritten d c u t (s.layoutFor d c t)).handRecord d
      (s.grantRecord c d t (s.layoutFor d c t))).ranker.newest = some frame := by
    rw [State.handRecord_ranker]
    exact hframe
  rw [State.grantCandidate_written]
  unfold State.reportDecision State.passFrame
  rw [newest]
  rfl

/-- Settles O49: the tiles are neither dry nor a sliver, so the candidate is granted; the layout, the payload
and the event are written out. -/
theorem placerGrants : Obligations.PlacerGrants := by
  unfold Obligations.PlacerGrants
  intro s d begun c frame u held placing running hframe next hu active pool p whole want t room guard1 guard2
    guards tile moves run1 run2 payload spent g v prof u' written dry sliver
  refine ⟨?_, execPlaceCandidate_of_candidate held placing running next begun⟩
  have tiles : c.tiles d p.pool s.dlBudget = t := by
    unfold Candidate.tiles
    rw [c.want_eq]
  have passFrame : s.passFrame = frame := by
    unfold State.passFrame
    rw [hframe]
    rfl
  have granted : s.placeCandidate d c = s.grantCandidate d c u t := by
    refine (State.placeCandidate_of_not_dry hu active pool dry).trans ?_
    dsimp only
    rw [tiles, c.want_eq]
    exact if_neg sliver
  rw [granted, State.grantCandidate_eq hframe, s.layoutFor_eq, grantEvent_eq]
  unfold State.grantWritten State.grantedRecord State.grantRecord
  rw [c.payload_eq, passFrame]
  rfl

end Sys2Proof.Machine

/-! ### The grant section as a list: what leaves it, and what is SENDING (R132, R133, R139) -/

namespace Sys2Proof.Machine

/-- No entry of the grant section but its head is SENDING (R133). -/
def HeadSends (es : List GrantEntry) : Prop := ∀ e ∈ es.tail, e.mark = .waiting

theorem State.TxAgrees.headSends {s : State} (h : s.TxAgrees) : HeadSends s.notices.grants := by
  have all (ha : allWaiting s.notices.grants s.notices.general) : HeadSends s.notices.grants :=
    fun e he => ha.1 e (List.mem_of_mem_tail he)
  unfold State.TxAgrees at h
  split at h
  · exact all h
  · exact all h.2
  · exact h.2.1
  · exact fun e he => h.2.1 e (List.mem_of_mem_tail he)

theorem HeadSends.of_length_le_one {es : List GrantEntry} (h : es.length ≤ 1) : HeadSends es := by
  intro e he
  have := List.length_pos_of_mem he
  rw [List.length_tail] at this
  omega

theorem HeadSends.append {es fs : List GrantEntry} (h : HeadSends es) (hf : ∀ e ∈ fs, e.mark = .waiting)
    (hlen : fs.length ≤ 1) : HeadSends (es ++ fs) := by
  cases es with
  | nil => exact .of_length_le_one hlen
  | cons x xs =>
    intro e he
    rcases List.mem_append.mp he with he | he
    · exact h e he
    · exact hf e he

/-- Of the entries that a property singles out, all SENDING, there is one at most. -/
theorem HeadSends.filter_length_le_one {es : List GrantEntry} (h : HeadSends es)
    {p : GrantEntry → Bool} (hp : ∀ e ∈ es, p e = true → e.mark = .sending) :
    (es.filter p).length ≤ 1 := by
  cases es with
  | nil => exact Nat.zero_le 1
  | cons x xs =>
    have rest : xs.filter p = [] := List.filter_eq_nil_iff.mpr fun e he hpe => by
      have sending := hp e (List.mem_cons_of_mem x he) hpe
      rw [h e he] at sending
      cases sending
    rw [List.filter_cons, rest]
    split
    · exact le_rfl
    · exact Nat.zero_le 1

/-- `fs` is what is left of the grant section `es` when entries have gone or its head has begun
transmission. -/
structure Thins (es fs : List GrantEntry) : Prop where
  length : fs.length ≤ es.length
  waiting : ∀ e ∈ fs, e.mark = .waiting → e ∈ es
  sends : HeadSends es → HeadSends fs

theorem Thins.refl (es : List GrantEntry) : Thins es es := ⟨le_rfl, fun _ he _ => he, id⟩

theorem Thins.trans {es fs gs : List GrantEntry} (h : Thins es fs) (h' : Thins fs gs) : Thins es gs :=
  ⟨h'.length.trans h.length, fun e he hw => h.waiting e (h'.waiting e he hw) hw, h'.sends ∘ h.sends⟩

theorem thins_tail (es : List GrantEntry) : Thins es es.tail :=
  ⟨by rw [List.length_tail]; omega, fun _ he _ => List.mem_of_mem_tail he,
    fun h e he => h e (List.mem_of_mem_tail he)⟩

theorem thins_markGrantHead (es : List GrantEntry) : Thins es (markGrantHead es) := by
  cases es with
  | nil => exact .refl []
  | cons x xs =>
    refine ⟨le_rfl, fun e he hw => ?_, id⟩
    rcases List.mem_cons.mp he with rfl | he
    · cases hw
    · exact List.mem_cons_of_mem x he

theorem State.thins_begin (s : State) (c : Option Transmission) :
    Thins s.notices.grants (s.begin c).notices.grants := by
  unfold State.begin
  dsimp only
  split
  · exact thins_markGrantHead _
  · exact .refl _

theorem State.thins_joinAnswer (s : State) (f : Frame) (r : Result) (d : AnswerData) :
    Thins s.notices.grants (s.joinAnswer f r d).notices.grants := by
  unfold State.joinAnswer
  dsimp only
  split
  · exact (s.thins_begin _).trans (State.thins_begin _ _)
  · exact State.thins_begin _ _

end Sys2Proof.Machine

/-! ### Grants and placement: what does not bear on them (R119, R121, R123, R139, R140) -/

namespace Sys2Proof.Machine

/-- The controller's part of `State.PlacementInv`: an acceptable table, and one of its five segments. -/
def Energy.Selects (e : Energy) : Prop := e.table.valid = true ∧ (1 ≤ e.segment ∧ e.segment ≤ 5)

/-- What `Obligations.GrantAndPlacementInvariantKept` says of the state after a step, and the one thing of the
line that the purge of a pass start rests on: one entry of the grant section at most is SENDING. -/
structure State.Fits (s : State) : Prop where
  grants : s.GrantInv
  placement : s.PlacementInv
  sends : HeadSends s.notices.grants

/-- The block leaves the Energy Budget Controller alone. -/
def KeepsEnergy (block : List Byte → State → Reply) : Prop :=
  ∀ b s, (block b s).state.energy = s.energy

/-- The state with everything blanked that neither invariant speaks of, and the grant section and the
controller blanked too. -/
def State.passCore (s : State) : State :=
  { s.besideBlocks with
    pending := []
    link := { State.reset.link with resetHeld := s.link.resetHeld }
    ranker :=
      { resetRanker with
        passIndex := s.ranker.passIndex, stage := s.ranker.stage, lists := s.ranker.lists,
        allowance := s.ranker.allowance }
    notices := { resetNotices with assemblers := s.notices.assemblers }
    draws := 0 }

/-- `t` has the pass and the controller of `s`, and what is left of its grant section. -/
structure State.Stands (s t : State) : Prop where
  core : t.passCore = s.passCore
  energy : t.energy = s.energy
  grants : Thins s.notices.grants t.notices.grants

section
variable {s t : State}

theorem State.Stands.held (h : s.Stands t) : t.link.resetHeld = s.link.resetHeld :=
  congrArg (·.link.resetHeld) h.core

theorem State.Stands.stage (h : s.Stands t) : t.ranker.stage = s.ranker.stage :=
  congrArg (·.ranker.stage) h.core

theorem State.Fits.stands (h : s.Fits) (hs : s.Stands t) : t.Fits := by
  have passIndex : t.ranker.passIndex = s.ranker.passIndex := congrArg (·.ranker.passIndex) hs.core
  have lists : t.ranker.lists = s.ranker.lists := congrArg (·.ranker.lists) hs.core
  have allowance : t.ranker.allowance = s.ranker.allowance := congrArg (·.ranker.allowance) hs.core
  have placers : t.placers = s.placers := congrArg (·.placers) hs.core
  have dlBudget : t.dlBudget = s.dlBudget := congrArg (·.dlBudget) hs.core
  have dlSpent : t.dlSpent = s.dlSpent := congrArg (·.dlSpent) hs.core
  have assemblers : t.notices.assemblers = s.notices.assemblers :=
    congrArg (·.notices.assemblers) hs.core
  obtain ⟨current, served, bound, building, placing⟩ := h.grants
  refine ⟨?_, ?_, hs.grants.sends h.sends⟩
  · unfold State.GrantInv
    rw [hs.held, passIndex, hs.stage, placers, assemblers]
    exact ⟨fun held e he hw => current held e (hs.grants.waiting e he hw) hw, served,
      hs.grants.length.trans bound, fun hc => hs.grants.length.trans (building hc),
      fun hp => ⟨hs.grants.length.trans (placing hp).1, (placing hp).2⟩⟩
  · unfold State.PlacementInv
    rw [hs.energy, hs.stage, lists, allowance, placers, dlBudget, dlSpent]
    exact h.placement

theorem State.OnlyAlerts.stands (h : s.OnlyAlerts t) : s.Stands t := by
  obtain ⟨al, more, mo, rfl, -⟩ := h
  exact ⟨rfl, rfl, .refl _⟩

theorem State.OnlyTable.stands (h : s.OnlyTable t) : s.Stands t := by
  obtain ⟨sl, al, more, mo, rfl, -⟩ := h
  exact ⟨rfl, rfl, .refl _⟩

theorem State.Fits.alerting (h : s.Fits) (ho : s.OnlyAlerts t) : t.Fits := h.stands ho.stands

theorem State.Fits.table (h : s.Fits) (ho : s.OnlyTable t) : t.Fits := h.stands ho.stands

theorem State.Fits.arbitrate (h : s.Fits) : s.arbitrate.Fits := h.stands ⟨rfl, rfl, s.thins_begin _⟩

/-- Of the link the invariants read whether the part is held in reset. -/
theorem State.Fits.with_link (h : s.Fits) {l : Link} (hl : l.resetHeld = s.link.resetHeld) :
    State.Fits { s with link := l } := by
  refine h.stands ⟨?_, rfl, .refl _⟩
  unfold State.passCore
  dsimp only
  rw [hl]
  rfl

theorem State.Fits.joinAnswer (h : s.Fits) (f : Frame) (r : Result) (d : AnswerData) :
    (s.joinAnswer f r d).Fits := by
  refine h.stands ⟨?_, State.joinAnswer_energy s f r d, s.thins_joinAnswer f r d⟩
  unfold State.joinAnswer
  dsimp only
  split <;> rfl

theorem State.Fits.answerHead (h : s.Fits) (r : Result) : (s.answerHead r).Fits := by
  unfold State.answerHead
  split
  · exact h.joinAnswer _ _ _
  · exact h

theorem State.Fits.leaveLine (h : s.Fits) (t : Transmission) : (s.leaveLine t).Fits := by
  unfold State.leaveLine
  dsimp only
  split
  · exact h.with_link rfl
  · exact h.stands ⟨rfl, rfl, thins_tail _⟩
  · exact h.stands ⟨rfl, rfl, .refl _⟩

/-- The cause, the timer, the frame, the views and the slot to come do not bear on the invariants. -/
theorem State.Fits.with_ranker (h : s.Fits) {k : Ranker} (hk : k.passIndex = s.ranker.passIndex)
    (hstage : k.stage = s.ranker.stage) (hlists : k.lists = s.ranker.lists)
    (hallowance : k.allowance = s.ranker.allowance) : State.Fits { s with ranker := k } := by
  refine h.stands ⟨?_, rfl, .refl _⟩
  unfold State.passCore
  dsimp only
  rw [hk, hstage, hlists, hallowance]
  rfl

/-- A block that leaves the pass and the controller alone. -/
theorem State.Fits.block (h : s.Fits) {block : List Byte → State → Reply}
    (hb : KeepsBeside block) (he : KeepsEnergy block) (b : List Byte) : (block b s).state.Fits := by
  refine h.stands ⟨?_, he b s, ?_⟩
  · show (block b s).state.besideBlocks.passCore = s.besideBlocks.passCore
    rw [hb]
  · rw [show (block b s).state.notices.grants = s.notices.grants from
      congrArg (·.notices.grants) (hb b s)]
    exact .refl _

/-- The controller may change while its table is acceptable and its segment is one of the five. -/
theorem State.Fits.with_energy (h : s.Fits) {e : Energy} (he : e.Selects) :
    State.Fits { s with energy := e } := by
  obtain ⟨-, -, candidates, placing⟩ := h.placement
  exact ⟨h.grants, ⟨he.1, he.2, candidates, placing⟩, h.sends⟩

end

end Sys2Proof.Machine

/-! ### The line of a Placer (R119 to R121, R123) -/

namespace Sys2Proof.Machine

/-- The line of a Placer in numbers, by the carrier of its fill pointer. -/
theorem Placer.onLine_iff (p : Placer) :
    p.OnLine
      ↔ (p.carriers = 1 ∨ p.carriers = 2) ∧ p.ptrCarrier < p.carriers ∧ p.ptrTile ≤ 24
        ∧ (p.ptrCarrier = 0 ∧ p.carriers = 2 → p.ptrTile < 24 ∧ p.pool = 24 - p.ptrTile + 24)
        ∧ (¬(p.ptrCarrier = 0 ∧ p.carriers = 2) → p.pool = 24 - p.ptrTile)
        ∧ p.tiles + p.guards + p.pool = 24 * p.carriers
        ∧ p.grants ≤ p.tiles := by
  unfold Placer.OnLine Config.carrierTiles
  split_ifs with two <;> omega

theorem Placer.OnLine.grants_le {p : Placer} (h : p.OnLine) : p.grants ≤ 48 := by
  rw [Placer.onLine_iff] at h
  omega

/-- A guard tile is taken only where the run leaves one in its carrier (R121). -/
theorem guard_fits (x : Bool) {tile : Nat} (h : tile ≤ 24) :
    tile + (if (x && decide (tile < 24)) = true then 1 else 0) ≤ 24 := by
  split
  · rename_i guarded
    exact of_decide_eq_true (Bool.and_eq_true_iff.mp guarded).2
  · exact h

/-- A grant of 1 tile or more that the pool holds leaves the Placer on its line. -/
theorem Placer.OnLine.granted {p : Placer} (h : p.OnLine) {t : Nat} (ht : 1 ≤ t) (hpool : t ≤ p.pool)
    (x : Bool) : (p.granted t (layOut p t x)).OnLine := by
  rw [Placer.onLine_iff] at h ⊢
  unfold Placer.granted
  by_cases fits : t ≤ 24 - p.ptrTile
  · have guard := guard_fits x (tile := p.ptrTile + t) (by omega)
    rw [layOut_of_fits x fits]
    dsimp only
    generalize (if (x && decide (p.ptrTile + t < 24)) = true then 1 else 0) = g at guard ⊢
    by_cases moves : 24 ≤ p.ptrTile + t + g ∧ p.ptrCarrier = 0 ∧ p.carriers = 2
    · rw [if_pos moves, if_pos moves]
      omega
    · rw [if_neg moves, if_neg moves]
      omega
  · have guard := guard_fits x (tile := t - (24 - p.ptrTile)) (by omega)
    rw [layOut_of_spills x (Nat.not_le.mp fits)]
    dsimp only
    generalize (if (x && decide (t - (24 - p.ptrTile) < 24)) = true then 1 else 0) = g at guard ⊢
    omega

theorem startedPlacer_onLine (list : List Candidate) {carriers : Nat} (h : carriers = 1 ∨ carriers = 2) :
    (startedPlacer list carriers).OnLine := by
  rw [Placer.onLine_iff]
  unfold startedPlacer Config.carrierTiles
  dsimp only
  omega

/-- Without an extended-range run no guard tile is taken (R121). -/
theorem layOut_guards_of_plain (p : Placer) (t : Nat) : (layOut p t false).guards = 0 := by
  by_cases fits : t ≤ 24 - p.ptrTile
  · rw [layOut_of_fits false fits]
    rfl
  · rw [layOut_of_spills false (Nat.not_le.mp fits)]
    rfl

end Sys2Proof.Machine

/-! ### A pass starts, and a pass completes (R83, R101, R139, R140) -/

namespace Sys2Proof.Machine

section
variable {s : State}

/-- The Placers of a pass grant 96 times at most, and so no more chunks are queued (R140). -/
theorem State.PlacementInv.chunks_le (h : s.PlacementInv) (placing : s.ranker.stage = .placing)
    {a : PerDir Assembler}
    (fit : ∀ d, (a.get d).seq + (a.get d).pending.length ≤ (s.placers.get d).grants) :
    a.dl.seq + a.ul.seq ≤ 96 := by
  obtain ⟨-, -, -, placers⟩ := h
  obtain ⟨dl, ul, -⟩ := placers placing
  have dlFit : a.dl.seq + a.dl.pending.length ≤ s.placers.dl.grants := fit .dl
  have ulFit : a.ul.seq + a.ul.pending.length ≤ s.placers.ul.grants := fit .ul
  have := dl.grants_le
  have := ul.grants_le
  omega

/-- The purge of a pass start leaves what is SENDING, since no WAITING entry is of the pass to come (R139). -/
theorem State.Fits.passStarted_grants (h : s.Fits) (held : s.link.resetHeld = false) (F : U16) :
    (s.passStarted F).notices.grants.length ≤ 1 := by
  obtain ⟨current, -⟩ := h.grants
  refine h.sends.filter_length_le_one fun e he hp => ?_
  rw [GrantEntry.not_purged, Bool.or_eq_true, beq_iff_eq, beq_iff_eq] at hp
  rcases hp with sending | next
  · exact sending
  · cases hm : e.mark with
    | sending => rfl
    | waiting =>
      rw [current held e he hm] at next
      bv_omega

theorem State.Fits.passStarted (h : s.Fits) (held : s.link.resetHeld = false) (F : U16) :
    (s.passStarted F).Fits := by
  have one := h.passStarted_grants held F
  obtain ⟨table, segment, candidates, -⟩ := h.placement
  refine ⟨⟨fun _ e he hw => ?_, fun hp => (by cases hp), one.trans (by decide), fun _ => one,
      fun hp => (by cases hp)⟩, ⟨table, segment, fun d => ⟨fun c hc => ?_, (candidates d).2⟩,
      fun hp => (by cases hp)⟩, .of_length_le_one one⟩
  · obtain ⟨-, kept⟩ := List.mem_filter.mp he
    rw [GrantEntry.not_purged, hw] at kept
    exact eq_of_beq kept
  · cases d <;> cases hc

theorem State.Fits.startMarkedPass (h : s.Fits) (held : s.link.resetHeld = false) (F : U16) :
    (s.startMarkedPass F).Fits := by
  have answered := ((h.passStarted held F).table (State.onlyTable_startPass s F)).answerHead .ok
  rcases State.startMarkedPass_cases s F with he | ⟨b, ho, he⟩
  · rw [he]
    exact answered
  · rw [he]
    exact (answered.alerting ho).arbitrate

theorem State.Fits.resolveDeferred (h : s.Fits) (held : s.link.resetHeld = false) :
    s.resolveDeferred.Fits := by
  unfold State.resolveDeferred
  split
  · exact h.startMarkedPass held _
  · exact (h.with_link (l := { s.link with device := .config }) rfl).answerHead .ok
  · exact h
  · exact h

/-- MAP_END joins the section as its last entry, the 98th at most (R138, R140). -/
theorem State.Fits.completed (h : s.Fits) (placing : s.ranker.stage = .placing) : s.completed.Fits := by
  obtain ⟨current, -, -, -, queued⟩ := h.grants
  obtain ⟨table, segment, candidates, -⟩ := h.placement
  refine ⟨⟨fun held e he hw => ?_, fun hp => (by cases hp), ?_, fun hc => (by cases hc),
      fun hp => (by cases hp)⟩, ⟨table, segment, candidates, fun hp => (by cases hp)⟩,
    h.sends.append ?_ le_rfl⟩
  · rcases List.mem_append.mp he with he | he
    · exact current held e he hw
    · rw [List.mem_singleton.mp he]
      rfl
  · obtain ⟨length, chunks⟩ := queued placing
    have := h.placement.chunks_le placing chunks
    show (s.notices.grants ++ _).length ≤ 98
    rw [List.length_append, List.length_singleton]
    omega
  · intro e he
    rw [List.mem_singleton.mp he]

theorem State.Fits.complete (h : s.Fits) (placing : s.ranker.stage = .placing) : s.complete.Fits := by
  obtain ⟨al, more, mo, sl, b, he, rfl, -⟩ := State.complete_footprint s
  rw [he]
  exact State.Fits.arbitrate ((h.completed placing).stands ⟨rfl, rfl, .refl _⟩)

end

end Sys2Proof.Machine

/-! ### The Placers move on and the assemblers deliver (R119, R123, R135, R136, R140) -/

namespace Sys2Proof.Machine

/-- What holds of the part written, in its direction, and of the old parts holds of the parts there are. -/
theorem PerDir.forall_get_put {α : Type} {p : PerDir α} {d : Direction} {a : α}
    {P : Direction → α → Prop} (ha : P d a) (hp : ∀ x, P x (p.get x)) (x : Direction) :
    P x ((p.put d a).get x) := by
  cases d <;> cases x
  · exact ha
  · exact hp .ul
  · exact hp .dl
  · exact ha

/-- A Placer of a direction may go from `p` to `q`: its list stands, it keeps to its line, a DL Placer takes
no guard tile, and its grants are no fewer. -/
structure Placer.GoesTo (d : Direction) (p q : Placer) : Prop where
  list : q.list = p.list
  onLine : p.OnLine → q.OnLine
  guards : d = .dl → p.guards = 0 → q.guards = 0
  grants : p.grants ≤ q.grants

theorem Placer.goesTo_skipped (d : Direction) (p : Placer) : p.GoesTo d p.skipped :=
  ⟨rfl, id, fun _ => id, le_rfl⟩

theorem Placer.goesTo_ended (d : Direction) (p : Placer) (why : EndReason) :
    p.GoesTo d { p with stage := .ended why } :=
  ⟨rfl, id, fun _ => id, le_rfl⟩

section
variable {s : State}

/-- A Placer goes on, and what is spent of the budget and what remains stay its whole. -/
theorem State.Fits.with_placer (h : s.Fits) {d : Direction} {p : Placer}
    (hp : (s.placers.get d).GoesTo d p) {left spent : Nat}
    (hsum : spent + left = s.dlSpent + s.dlBudget) :
    State.Fits { s with placers := s.placers.put d p, dlBudget := left, dlSpent := spent } := by
  obtain ⟨current, served, bound, building, queued⟩ := h.grants
  obtain ⟨table, segment, candidates, placed⟩ := h.placement
  have goes := PerDir.forall_get_put
      (P := fun x (q : Placer) => q.list = (s.placers.get x).list ∧ (s.placers.get x).grants ≤ q.grants)
      ⟨hp.list, hp.grants⟩ fun _ => ⟨rfl, le_rfl⟩
  refine ⟨⟨current, served, bound, building, fun placing => ?_⟩, ⟨table, segment, fun x => ?_,
    fun placing => ?_⟩, h.sends⟩
  · exact ⟨(queued placing).1, fun x => ((queued placing).2 x).trans (goes x).2⟩
  · rw [(goes x).1]
    exact candidates x
  · obtain ⟨dl, ul, plain, sum⟩ := placed placing
    cases d with
    | dl => exact ⟨hp.onLine dl, ul, hp.guards rfl plain, hsum.trans sum⟩
    | ul => exact ⟨dl, hp.onLine ul, plain, hsum.trans sum⟩

section
variable (h : s.Fits) (placing : s.ranker.stage = .placing) (d : Direction) {a : Assembler}
  (pass : a.passIndex = (s.notices.assemblers.get d).passIndex)
include h placing pass

/-- The assembler of a direction goes to `a` and queues one chunk at most, its number of chunks with the
records still pending within the grants of its Placer. -/
theorem State.Fits.deliver {more : List GrantEntry}
    (hmore : ∀ e ∈ more, e.mark = .waiting ∧ e.passIndex = (s.notices.assemblers.get d).passIndex)
    (hone : more.length ≤ 1) (hseq : a.seq = (s.notices.assemblers.get d).seq + more.length)
    (hfit : a.seq + a.pending.length ≤ (s.placers.get d).grants) :
    State.Fits
      { s with
        notices :=
          { s.notices with
            grants := s.notices.grants ++ more
            assemblers := s.notices.assemblers.put d a } } := by
  obtain ⟨current, served, -, -, queued⟩ := h.grants
  obtain ⟨dlServed, ulServed⟩ := served placing
  obtain ⟨length, chunks⟩ := queued placing
  have index : (s.notices.assemblers.get d).passIndex = s.ranker.passIndex := by
    cases d
    · exact dlServed
    · exact ulServed
  have total : s.notices.grants.length + more.length
      ≤ 1 + (s.notices.assemblers.put d a).dl.seq + (s.notices.assemblers.put d a).ul.seq := by
    cases d with
    | dl =>
      have : a.seq = s.notices.assemblers.dl.seq + more.length := hseq
      show _ ≤ 1 + a.seq + s.notices.assemblers.ul.seq
      omega
    | ul =>
      have : a.seq = s.notices.assemblers.ul.seq + more.length := hseq
      show _ ≤ 1 + s.notices.assemblers.dl.seq + a.seq
      omega
  have fit := PerDir.forall_get_put
    (P := fun x (y : Assembler) => y.seq + y.pending.length ≤ (s.placers.get x).grants) hfit chunks
  have queuedLast := h.placement.chunks_le placing fit
  refine ⟨⟨fun held e he hw => ?_, fun _ => ?_, ?_, fun hc => ?_, fun _ => ⟨?_, fit⟩⟩, h.placement,
    h.sends.append (fun e he => (hmore e he).1) hone⟩
  · rcases List.mem_append.mp he with he | he
    · exact current held e he hw
    · exact (hmore e he).2.trans index
  · cases d with
    | dl => exact ⟨pass.trans index, ulServed⟩
    | ul => exact ⟨dlServed, pass.trans index⟩
  · show (s.notices.grants ++ more).length ≤ 98
    rw [List.length_append]
    omega
  · rw [show s.ranker.stage = .constructing from hc] at placing
    cases placing
  · show (s.notices.grants ++ more).length ≤ _
    rw [List.length_append]
    exact total

theorem State.Fits.queueChunk (hseq : a.seq = (s.notices.assemblers.get d).seq)
    (hfit : a.seq + 1 ≤ (s.placers.get d).grants) : (s.queueChunk d a).Fits := by
  rw [State.queueChunk_shape]
  refine h.deliver placing d (a := { a with pending := [], seq := a.seq + 1 }) pass ?_ le_rfl ?_ hfit
  · intro e he
    rw [List.mem_singleton.mp he]
    exact ⟨rfl, pass⟩
  · rw [← hseq]
    rfl

theorem State.Fits.putAssembler (hseq : a.seq = (s.notices.assemblers.get d).seq)
    (hfit : a.seq + a.pending.length ≤ (s.placers.get d).grants) : (s.putAssembler d a).Fits := by
  have delivered := h.deliver placing d (more := []) pass (fun e he => by cases he) (Nat.zero_le 1) hseq
    hfit
  rw [List.append_nil] at delivered
  exact delivered

end

variable (h : s.Fits) (placing : s.ranker.stage = .placing) (d : Direction)
include h placing

/-- Chunks and pending records of a direction are no more than its grants. -/
theorem State.Fits.chunks_le :
    (s.notices.assemblers.get d).seq + (s.notices.assemblers.get d).pending.length
      ≤ (s.placers.get d).grants := by
  obtain ⟨-, -, -, -, queued⟩ := h.grants
  exact (queued placing).2 d

/-- A grant record is handed on for a grant that is counted and has no chunk yet (R126, R135). -/
theorem State.Fits.handRecord (g : GrantRecord)
    (counted : (s.notices.assemblers.get d).seq + (s.notices.assemblers.get d).pending.length
      < (s.placers.get d).grants) : (s.handRecord d g).Fits := by
  unfold State.handRecord
  dsimp only
  split
  · exact h.queueChunk placing d rfl rfl (by dsimp only; omega)
  · refine h.putAssembler placing d rfl rfl ?_
    dsimp only
    rw [List.length_append, List.length_singleton]
    omega

/-- A flush queues what is pending and closes the assembler (R136). -/
theorem State.Fits.flush : (s.flush d).Fits := by
  have fit := h.chunks_le placing d
  have closing {x : State} (hx : x.Fits) (hs : x.ranker.stage = .placing) :
      (x.putAssembler d { x.notices.assemblers.get d with stage := .closed }).Fits :=
    hx.putAssembler hs d rfl rfl (hx.chunks_le hs d)
  unfold State.flush
  dsimp only
  split
  · exact closing h placing
  · rename_i some
    have := List.length_pos_of_ne_nil some
    exact closing (h.queueChunk placing d rfl rfl (by omega)) placing

end

end Sys2Proof.Machine

/-! ### The end of a Placer and a candidate taken keep grants and placement (R97, R111 to R128) -/

namespace Sys2Proof.Machine

section
variable {s : State}

theorem State.Fits.endedPlacer (h : s.Fits) (placing : s.ranker.stage = .placing) (d : Direction)
    (why : EndReason) : (s.endedPlacer d why).Fits :=
  State.Fits.flush (s := s.putPlacer d { s.placers.get d with stage := .ended why })
    (h.with_placer (Placer.goesTo_ended d _ why) rfl) placing d

/-- A Placer ends: the other one runs on, or the pass completes and what waited for it is resolved. -/
theorem State.Fits.endPlacer (h : s.Fits) (placing : s.ranker.stage = .placing)
    (held : s.link.resetHeld = false) (d : Direction) (why : EndReason) : (s.endPlacer d why).Fits := by
  have ended := h.endedPlacer placing d why
  have stage : (s.endedPlacer d why).ranker.stage = .placing := by
    rw [State.endedPlacer_ranker]
    exact placing
  rw [State.endPlacer_eq]
  unfold State.afterEnd
  split
  · refine (ended.complete stage).resolveDeferred ?_
    rw [State.complete_link, State.endedPlacer_link]
    exact held
  · exact ended.arbitrate

/-- A skip moves its Placer on. -/
theorem State.Fits.skipCandidate (h : s.Fits) (d : Direction) (c : Candidate) (k : EventKind)
    (r : TraceResult) (tiles : Nat) : (s.skipCandidate d c k r tiles).Fits :=
  State.Fits.table (s := s.skippedAt d) (h.with_placer (Placer.goesTo_skipped d _) rfl)
    (State.onlyTable_skipCandidate s d c k r tiles)

/-- A grant of 1 tile or more that the pool holds; a downlink run takes no guard tile (R121). -/
theorem Placer.goesTo_granted {d : Direction} {p : Placer} {t : Nat} (ht : 1 ≤ t) (hpool : t ≤ p.pool)
    (x : Bool) : p.GoesTo d (p.granted t (layOut p t (decide (d = .ul) && x))) := by
  refine ⟨rfl, fun h => h.granted ht hpool _, fun hd plain => ?_, Nat.le_succ _⟩
  subst hd
  show p.guards + (layOut p t false).guards = 0
  rw [plain, layOut_guards_of_plain]

/-- What a grant writes before its record is handed on (R119, R121, R123). -/
theorem State.Fits.grantWritten (h : s.Fits) {d : Direction} {c : Candidate} (u : Subscriber) {t : Nat}
    (ht : 1 ≤ t) (hcount : c.tileCount d (s.placers.get d).pool s.dlBudget = .grant t) :
    (s.grantWritten d c u t (s.layoutFor d c t)).Fits := by
  obtain ⟨pool, paid⟩ := c.tileCount_le d _ _ t hcount
  have spent : (if d = .dl then t * c.dlCost else 0) ≤ s.dlBudget := by
    split
    · exact paid (by assumption)
    · exact Nat.zero_le _
  have placed := h.with_placer (d := d) (p := (s.placers.get d).granted t (s.layoutFor d c t))
    (left := s.dlBudget - (if d = .dl then t * c.dlCost else 0))
    (spent := s.dlSpent + (if d = .dl then t * c.dlCost else 0))
    (by rw [State.layoutFor_layOut]; exact Placer.goesTo_granted ht pool c.extended) (by omega)
  exact placed.stands ⟨rfl, rfl, .refl _⟩

/-- A grant is counted as its record is handed on, and so the chunks stay within the grants (R135, R140). -/
theorem State.Fits.grantCandidate (h : s.Fits) (placing : s.ranker.stage = .placing) {d : Direction}
    {c : Candidate} (u : Subscriber) {t : Nat} (ht : 1 ≤ t)
    (hcount : c.tileCount d (s.placers.get d).pool s.dlBudget = .grant t) :
    (s.grantCandidate d c u t).Fits := by
  rw [State.grantCandidate_written]
  refine State.Fits.alerting ((h.grantWritten u ht hcount).handRecord placing d _ ?_)
    (State.onlyAlerts_takeEvent _ _ _)
  have chunks := h.chunks_le placing d
  show _ < ((s.placers.put d _).get d).grants
  rw [PerDir.get_put_same]
  exact Nat.lt_succ_of_le chunks

theorem State.Fits.placeCandidate (h : s.Fits) (placing : s.ranker.stage = .placing)
    (held : s.link.resetHeld = false) (d : Direction) {c : Candidate} (hc : c.InRange) :
    (s.placeCandidate d c).Fits := by
  rcases State.placeCandidate_cases s d c with ⟨he, -⟩ | ⟨k, r, tiles, he⟩ | ⟨u, t, he, -, ht, hp⟩
  · rw [he]
    exact h.endPlacer placing held d _
  · rw [he]
    exact h.skipCandidate d c k r tiles
  · rw [he]
    exact h.grantCandidate placing u (hc.tileCount_bounds ht hp).1 ht

/-- A Placer still RUNNING after a candidate leaves the reset line as it found it. -/
theorem State.placeCandidate_resetHeld {d : Direction} {c : Candidate}
    (h : ((s.placeCandidate d c).placers.get d).stage = .running) :
    (s.placeCandidate d c).link.resetHeld = s.link.resetHeld := by
  rcases State.placeCandidate_cases s d c with ⟨he, -⟩ | ⟨k, r, tiles, he⟩ | ⟨u, t, he, -⟩
  · rw [he, State.endPlacer_stage] at h
    cases h
  · rw [he, (State.onlyTable_skipCandidate s d c k r tiles).link]
    rfl
  · obtain ⟨more, rs, q, ho, -⟩ := State.grantCandidate_footprint s d c u t
    rw [he, ho.link]
    cases d <;> rfl

theorem State.Fits.placerStep (h : s.Fits) (placing : s.ranker.stage = .placing)
    (held : s.link.resetHeld = false) (d : Direction) (begun : Bool) : (s.placerStep d begun).Fits := by
  have inRange {c : Candidate} (hn : (s.placers.get d).nextCandidate = some c) : c.InRange := by
    obtain ⟨-, -, candidates, -⟩ := h.placement
    exact (candidates d).2 c (List.mem_of_getElem? hn)
  unfold State.placerStep
  split
  · exact h.endPlacer placing held d _
  · rename_i hn
    exact (h.placeCandidate placing held d (inRange hn)).arbitrate
  · exact h.endPlacer placing held d _
  · rename_i c _ hn
    have placed := h.placeCandidate placing held d (inRange hn)
    split
    · unfold State.stopAfter
      split
      · rename_i running
        refine placed.arbitrate.endPlacer ?_ ?_ d _
        · rw [State.arbitrate_ranker, State.placeCandidate_ranker_stage s d c running]
          exact placing
        · rw [State.arbitrate_link_resetHeld, State.placeCandidate_resetHeld running]
          exact held
      · exact placed.arbitrate
    · exact h.endPlacer placing held d _

end

end Sys2Proof.Machine

/-! ### Construction keeps grants and placement (R39, R84 to R95, R110, R134) -/

namespace Sys2Proof.Machine

/-! #### The candidates of a slot (R39, R87 to R89) -/

section
variable {s : State} (h : s.TablesInv)
include h

/-- Every rate step carries 1 to 255 bytes a tile (R39, R41). -/
theorem State.TablesInv.payloadOf {step : Nat} (hlow : 1 ≤ step) (hhigh : step ≤ 12) :
    1 ≤ s.payloadOf step ∧ s.payloadOf step ≤ 255 := by
  obtain ⟨valid, byte, -⟩ := h
  simp only [rateTableValid, Bool.and_eq_true, List.all_eq_true, decide_eq_true_eq] at valid
  obtain ⟨⟨positive, -⟩, -⟩ := valid
  have inTable : s.rateTable[step - 1] ∈ s.rateTable.toList :=
    Vector.mem_toList_iff.mpr (Vector.getElem_mem _)
  unfold State.payloadOf
  rw [if_neg (by omega), Vector.getElem?_eq_getElem (by omega)]
  exact ⟨(positive _ inTable).1, byte _ inTable⟩

/-- A class lets a candidate have 1 to 48 tiles (R16). -/
theorem State.TablesInv.maxTiles (c : Fin 8) (d : Direction) :
    1 ≤ (s.profileCopy c).maxTiles.get d ∧ (s.profileCopy c).maxTiles.get d ≤ 48 := by
  obtain ⟨-, -, -, -, -, -, -, copies⟩ := h
  have valid := copies c
  simp only [Profile.valid, decide_eq_true_eq] at valid
  cases d <;> simp only [PerDir.get_dl, PerDir.get_ul] <;> omega

theorem State.TablesInv.dataSnapshot {u : Subscriber} {d : Direction} (hd : s.dataCandidate u d = true)
    (k : Handle) : (s.dataSnapshot k u d).InRange := by
  obtain ⟨backlog, step⟩ := of_decide_eq_true hd
  have steps : s.passStep u d ≤ 12 := by
    have := (stepAmong_spec s.rateTable
      (s.quality u d s.ranker.setupCopy.staleLimit s.ranker.setupCopy.stalePenalty) 12 le_rfl).1
    rw [← stepOf_eq_stepAmong] at this
    unfold State.passStep stepFor
    split <;> omega
  exact ⟨h.payloadOf step steps, h.maxTiles u.cls d, fun _ => backlog⟩

theorem State.TablesInv.pollSnapshot (k : Handle) (u : Subscriber) : (s.pollSnapshot k u).InRange :=
  ⟨h.payloadOf le_rfl (by decide), h.maxTiles u.cls .ul, fun hk => by cases hk⟩

theorem State.TablesInv.candidatesOf (k : Handle) (u : Subscriber) (d : Direction) :
    ∀ c ∈ s.candidatesOf k u d, c.InRange := by
  intro c hc
  unfold State.candidatesOf at hc
  split at hc
  · split at hc
    · rename_i hd
      rw [List.mem_singleton.mp hc]
      exact h.dataSnapshot hd k
    · cases hc
  · split at hc
    · rename_i hd
      rw [List.mem_singleton.mp hc]
      exact h.dataSnapshot hd k
    · split at hc
      · rw [List.mem_singleton.mp hc]
        exact h.pollSnapshot k u
      · cases hc

end

/-! #### The taking of a slot (R84 to R90) -/

section
variable {s : State}

/-- The lists of the pass may change to others with every candidate in its ranges. -/
theorem State.Fits.with_lists (h : s.Fits) {lists : PerDir (List Candidate)}
    (hlists : ∀ d, ∀ c ∈ lists.get d, c.InRange) :
    State.Fits { s with ranker := { s.ranker with lists := lists } } := by
  obtain ⟨table, segment, candidates, placing⟩ := h.placement
  exact ⟨h.grants, ⟨table, segment, fun d => ⟨hlists d, (candidates d).2⟩, placing⟩, h.sends⟩

theorem State.Fits.putView (h : s.Fits) (n : Nat) (v : SlotView) : (s.putView n v).Fits :=
  h.with_ranker rfl rfl rfl rfl

theorem State.Fits.considerSubscriber (h : s.Fits) (ht : s.TablesInv) (n : Nat) (u : Subscriber) :
    (s.considerSubscriber n u).Fits := by
  obtain ⟨-, -, candidates, -⟩ := h.placement
  refine State.Fits.with_lists (((h.table (State.onlyTable_putSub s n _)).putView n _)) fun d c hc => ?_
  cases d with
  | dl =>
    rcases List.mem_append.mp hc with hc | hc
    · exact (candidates .dl).1 c hc
    · exact ht.candidatesOf _ _ _ c hc
  | ul =>
    rcases List.mem_append.mp hc with hc | hc
    · exact (candidates .ul).1 c hc
    · exact ht.candidatesOf _ _ _ c hc

theorem State.Fits.constructAt (h : s.Fits) (ht : s.TablesInv) (n : Nat) : (s.constructAt n).Fits := by
  unfold State.constructAt
  split
  · exact h
  · split
    · split
      · exact ((((h.table (State.onlyTable_putSub s n _)).putView n _).table
          (State.onlyTable_latchMember _ n .lost)).alerting (State.onlyAlerts_takeEvent _ _ _))
      · exact h.considerSubscriber ht n _
    · exact h.putView n _
    · exact h.putView n _

/-! #### Placement begins (R75, R95, R110, R134) -/

theorem State.Fits.orderLists (h : s.Fits) : s.orderLists.Fits := by
  obtain ⟨-, -, candidates, -⟩ := h.placement
  refine h.with_lists fun d c hc => ?_
  cases d with
  | dl => exact (candidates .dl).1 c ((orderCandidates_perm _ _).mem_iff.mp hc)
  | ul => exact (candidates .ul).1 c ((orderCandidates_perm _ _).mem_iff.mp hc)

/-- A stale reading forces segment 5, and otherwise the segment stands (R69). -/
theorem Energy.Selects.afterAllowance {e : Energy} (h : e.Selects) (timeout : Nat) :
    (e.afterAllowance timeout).Selects := by
  refine ⟨h.1, ?_⟩
  show 1 ≤ (if _ then 5 else e.segment) ∧ (if _ then 5 else e.segment) ≤ 5
  split
  · omega
  · exact h.2

/-- An allowance is of one carrier or two (R63, R73). -/
theorem Energy.Selects.carriers {e : Energy} (h : e.Selects) (emergency : Bool) :
    (e.allowance emergency).carriers = 1 ∨ (e.allowance emergency).carriers = 2 := by
  obtain ⟨valid, low, high⟩ := h
  have each := ((EnergyTable.valid_iff _).mp valid).carriers
  unfold Energy.allowance
  split
  · exact each 0 (by decide)
  · have := each (e.segment - 1) (by omega)
    rwa [Nat.sub_add_cancel low] at this

theorem State.Fits.takeAllowance (h : s.Fits) (building : s.ranker.stage ≠ .placing) (b : Bool) :
    (s.takeAllowance b).Fits
      ∧ ((s.takeAllowance b).ranker.allowance.carriers = 1
        ∨ (s.takeAllowance b).ranker.allowance.carriers = 2) := by
  obtain ⟨table, segment, candidates, -⟩ := h.placement
  have after := Energy.Selects.afterAllowance ⟨table, segment⟩ s.ranker.setupCopy.energyTimeout
  have only := State.onlyAlerts_takeAllowance s b
  refine ⟨State.Fits.alerting ?_ only, ?_⟩
  · exact ⟨h.grants, ⟨after.1, after.2, candidates, fun hp => absurd hp building⟩, h.sends⟩
  · rw [only.ranker]
    exact after.carriers b

/-- The Placers and the assemblers start with nothing granted, queued or pending (R110, R134). -/
theorem State.Fits.startPlacers (h : s.Fits) (building : s.ranker.stage = .constructing)
    (carriers : s.ranker.allowance.carriers = 1 ∨ s.ranker.allowance.carriers = 2) :
    s.startPlacers.Fits := by
  obtain ⟨current, -, bound, one, -⟩ := h.grants
  obtain ⟨table, segment, candidates, -⟩ := h.placement
  refine ⟨⟨current, fun _ => ⟨rfl, rfl⟩, bound, fun hc => (by cases hc), fun _ =>
      ⟨one building, fun d => ?_⟩⟩, ⟨table, segment, fun d => ⟨(candidates d).1, ?_⟩, fun _ =>
      ⟨startedPlacer_onLine _ carriers, startedPlacer_onLine _ carriers, rfl, Nat.zero_add _⟩⟩, h.sends⟩
  · cases d <;> exact Nat.zero_le _
  · cases d with
    | dl => exact (candidates .dl).1
    | ul => exact (candidates .ul).1

theorem State.Fits.beginPlacement (h : s.Fits) (building : s.ranker.stage = .constructing) :
    s.beginPlacement.Fits := by
  have inConstruction : s.orderLists.ranker.stage ≠ .placing := by
    rw [show s.orderLists.ranker.stage = .constructing from building]
    exact PassStage.noConfusion
  obtain ⟨taken, carriers⟩ := h.orderLists.takeAllowance inConstruction
    (s.orderLists.emergencyListed s.orderLists.ranker.lists.dl)
  rw [State.beginPlacement_eq]
  refine taken.startPlacers ?_ carriers
  rw [(State.onlyAlerts_takeAllowance _ _).ranker]
  exact building

theorem State.Fits.execConstructSlot (h : s.Fits) (ht : s.TablesInv) :
    LeadsTo (execConstructSlot s) State.Fits := by
  unfold Machine.execConstructSlot
  split
  · rename_i hc
    obtain ⟨views, lists, ho⟩ := s.constructAt_footprint s.ranker.nextSlot
    have moved := (h.constructAt ht s.ranker.nextSlot).with_ranker
      (k := { (s.constructAt s.ranker.nextSlot).ranker with nextSlot := s.ranker.nextSlot + 1 })
      rfl rfl rfl rfl
    have stage : (s.constructAt s.ranker.nextSlot).ranker.stage = .constructing := by
      rw [ho.ranker]
      exact hc.1
    refine .next ?_
    split
    · exact (moved.beginPlacement stage).arbitrate
    · exact moved.arbitrate
  · exact .next h

/-! ### Truncation keeps grants and placement (R96 to R100) -/

theorem State.Fits.stopPlacers (h : s.Fits) (placing : s.ranker.stage = .placing) :
    s.stopPlacers.Fits := by
  have first : (s.stopPlacer .dl).Fits := h.endedPlacer placing .dl .stopped
  refine State.Fits.endedPlacer first.arbitrate ?_ .ul .stopped
  rw [State.arbitrate_ranker, State.stopPlacer_ranker]
  exact placing

/-- A construction cut off: its Placers start, stop and complete (R98). -/
theorem State.Fits.cutConstruction (h : s.Fits) (building : s.ranker.stage = .constructing) (c : Cause) :
    (s.cutConstruction c).Fits := by
  have caused := h.with_ranker (k := { s.ranker with cause := some c }) rfl rfl rfl rfl
  have stopped : (s.cutPlacers c).Fits := (caused.beginPlacement building).stopPlacers rfl
  obtain ⟨a, ranker⟩ := s.cutPlacers_ranker c
  exact stopped.complete (by rw [ranker])

theorem State.Fits.truncate (h : s.Fits) (held : s.link.resetHeld = false) (c : Cause) :
    (s.truncate c).Fits := by
  cases hs : s.ranker.stage with
  | idle =>
    rw [State.truncate_idle s c hs]
    exact h
  | constructing =>
    rw [State.truncate_constructing s c hs, State.truncateConstruction_eq]
    refine (h.cutConstruction hs _).resolveDeferred ?_
    rw [State.cutConstruction_eq, State.complete_link, State.cutPlacers_link]
    exact held
  | placing =>
    rw [State.truncate_placing s c hs]
    exact h.with_ranker rfl rfl rfl rfl

theorem State.Fits.deferUntilIdle (h : s.Fits) (held : s.link.resetHeld = false) (w : Decoding)
    (c : Cause) : (s.deferUntilIdle w c).Fits := by
  have waiting := h.with_link (l := { s.link with decoding := w }) rfl
  unfold State.deferUntilIdle
  dsimp only
  split
  · exact waiting.resolveDeferred held
  · exact waiting.truncate held c
  · exact waiting.truncate held c

theorem State.Fits.execDeadlineExpiry (h : s.Fits) : LeadsTo (execDeadlineExpiry s) State.Fits := by
  unfold Machine.execDeadlineExpiry
  split
  · rename_i hc
    have expired := h.with_ranker (k := { s.ranker with timer := .expired }) rfl rfl rfl rfl
    refine .next ?_
    split
    · exact expired
    · exact expired.truncate hc.2 _
  · exact .next h

end

end Sys2Proof.Machine

/-! ### Every command keeps grants and placement -/

namespace Sys2Proof.Machine

/-! #### The owning blocks: all but those of chapter 4 leave the controller alone -/

theorem keepsEnergy_withNamed {act : Handle → Subscriber → State → Reply}
    (h : ∀ k u s, (act k u s).state.energy = s.energy) : KeepsEnergy (withNamed act) := by
  intro b s
  unfold withNamed
  split
  · exact h _ _ _
  · rfl

theorem keepsEnergy_alertClear : KeepsEnergy alertClearBlock := by
  intro b s
  unfold alertClearBlock State.clearNamed
  split
  · rfl
  · split
    · rfl
    · rfl
    · split
      · rfl
      · split <;> rfl

theorem keepsEnergy_alertMask : KeepsEnergy alertMaskBlock := by
  intro b s
  unfold alertMaskBlock
  split <;> rfl

theorem keepsEnergy_rateTable : KeepsEnergy rateTableBlock := by
  intro b s
  unfold rateTableBlock
  split <;> rfl

theorem keepsEnergy_trackSetup : KeepsEnergy trackSetupBlock := by
  intro b s
  unfold trackSetupBlock
  split <;> rfl

theorem keepsEnergy_classProfile : KeepsEnergy classProfileBlock := by
  intro b s
  unfold classProfileBlock
  split <;> rfl

theorem keepsEnergy_passSetup : KeepsEnergy passSetupBlock := by
  intro b s
  unfold passSetupBlock
  split <;> rfl

theorem keepsEnergy_admission : KeepsEnergy admitBlock := by
  intro b s
  unfold admitBlock
  split
  · rfl
  · split
    · split <;> rfl
    · rfl

theorem suspendBlock_energy (k : Handle) (u : Subscriber) (s : State) :
    (suspendBlock k u s).state.energy = s.energy := by
  unfold suspendBlock
  split <;> rfl

theorem resumeBlock_energy (k : Handle) (u : Subscriber) (s : State) :
    (resumeBlock k u s).state.energy = s.energy := by
  unfold resumeBlock
  split <;> rfl

theorem linkUpdateFields_energy (b : List Byte) (k : Handle) (u : Subscriber) (s : State) :
    (linkUpdateFields b k u s).state.energy = s.energy := by
  unfold linkUpdateFields
  split
  · rfl
  · split
    · split
      · rfl
      · split <;> rfl
    · rfl
    · rfl

theorem keepsEnergy_subscriberRead : KeepsEnergy subscriberReadBlock := by
  intro b s
  unfold subscriberReadBlock
  dsimp only
  split
  · rfl
  · split <;> rfl
  · split
    · split <;> rfl
    · rfl

theorem keepsEnergy_monitorSetup : KeepsEnergy monitorSetupBlock := by
  intro b s
  unfold monitorSetupBlock
  split <;> rfl

theorem keepsEnergy_bufferSetup : KeepsEnergy bufferSetupBlock := by
  intro b s
  unfold bufferSetupBlock
  split <;> rfl

theorem keepsEnergy_counterRead : KeepsEnergy counterReadBlock := by
  intro b s
  unfold counterReadBlock
  split
  · rfl
  · dsimp only
    split <;> rfl

theorem keepsEnergy_captureRead : KeepsEnergy captureReadBlock := by
  intro b s
  unfold captureReadBlock
  dsimp only
  split <;> rfl

section
variable {s : State}

theorem State.Fits.energyTableBlock (h : s.Fits) (b : List Byte) : (energyTableBlock b s).state.Fits := by
  obtain ⟨-, segment, -⟩ := h.placement
  unfold Machine.energyTableBlock
  split
  · exact h
  · rename_i t ht
    exact h.with_energy ⟨parseEnergyTable_valid ht, segment⟩

/-- The segment map has five segments (R65). -/
theorem EnergyTable.segmentOf_bounds (t : EnergyTable) (y : Nat) :
    1 ≤ t.segmentOf y ∧ t.segmentOf y ≤ 5 := by
  have := List.countP_le_length (p := fun k => decide (min y 255 ≤ t.bound (k + 1))) (l := List.range 4)
  rw [List.length_range] at this
  rw [t.segmentOf_eq]
  omega

theorem State.Fits.energyReportBlock (h : s.Fits) (b : List Byte) :
    (energyReportBlock b s).state.Fits := by
  obtain ⟨table, segment, -⟩ := h.placement
  refine h.with_energy ⟨table, ?_⟩
  show 1 ≤ s.energy.table.select _ _ ∧ s.energy.table.select _ _ ≤ 5
  unfold EnergyTable.select
  split
  · exact s.energy.table.segmentOf_bounds _
  · split
    · exact s.energy.table.segmentOf_bounds _
    · exact segment

theorem State.Fits.serviceOnBlock (h : s.Fits) (b : List Byte) : (serviceOnBlock b s).state.Fits :=
  ((h.table (State.onlyTable_mapSubs s _)).with_ranker (k := { s.ranker with newest := none }) rfl rfl
    rfl rfl).with_link rfl

/-! #### Reception and the device resets (R164 to R168, R178, R179) -/

/-- A byte received changes the receiver and the accepted frames, or discards the frame in reception. -/
theorem State.receive_cases (s : State) (b : Byte) :
    (∃ r fs, s.receive b = { s with link := { s.link with rx := r, accepted := fs } })
      ∨ ∃ a, s.receive b = s.discardFrame a := by
  unfold State.receive
  split
  · split <;> exact .inl ⟨_, _, rfl⟩
  · split
    · exact .inl ⟨_, _, rfl⟩
    · split <;> exact .inl ⟨_, _, rfl⟩
  · split
    · unfold State.receiveHeader
      split
      · split
        · exact .inr ⟨_, rfl⟩
        · split <;> exact .inl ⟨_, _, rfl⟩
      · exact .inl ⟨_, _, rfl⟩
    · exact .inr ⟨_, rfl⟩
  · split
    · unfold State.receiveBody
      split <;> exact .inl ⟨_, _, rfl⟩
    · exact .inr ⟨_, rfl⟩
  · unfold State.receiveCrc
    split
    · exact .inl ⟨_, _, rfl⟩
    · split
      · exact .inl ⟨_, _, rfl⟩
      · exact .inr ⟨_, rfl⟩

theorem State.Fits.discardFrame (h : s.Fits) (a : DeviceAlert) : (s.discardFrame a).Fits :=
  State.Fits.alerting (s := s.putRx .hunt) (h.with_link rfl) (State.onlyAlerts_latchDevice _ _ _)

theorem State.Fits.receive (h : s.Fits) (b : Byte) : (s.receive b).Fits := by
  rcases s.receive_cases b with ⟨r, fs, he⟩ | ⟨a, he⟩
  · rw [he]
    exact h.with_link rfl
  · rw [he]
    exact h.discardFrame a

theorem State.reset_fits : State.reset.Fits :=
  ⟨State.reset_grantInv, State.reset_placementInv, .of_length_le_one (Nat.zero_le 1)⟩

theorem State.deviceReset_fits (s : State) (b1 b0 : PinLevel) : (s.deviceReset b1 b0).Fits := by
  rw [State.deviceReset_eq]
  exact State.reset_fits.stands ⟨rfl, rfl, .refl _⟩

/-- Held in reset the section keeps its entries, none SENDING, whatever their pass (R179; log 13). -/
theorem State.Fits.holdInReset (h : s.Fits) : s.holdInReset.Fits := by
  obtain ⟨-, -, bound, -⟩ := h.grants
  obtain ⟨table, segment, candidates, -⟩ := h.placement
  refine ⟨⟨fun held => (by cases held), fun hp => (by cases hp), ?_, fun hc => (by cases hc),
      fun hp => (by cases hp)⟩, ⟨table, segment, fun d => ⟨(candidates d).1, fun c hc => ?_⟩,
      fun hp => (by cases hp)⟩, fun e he => ?_⟩
  · show (s.notices.grants.map _).length ≤ 98
    rw [List.length_map]
    exact bound
  · cases d <;> cases hc
  · obtain ⟨x, -, rfl⟩ := List.mem_map.mp (List.mem_of_mem_tail he)
    rfl

/-! #### Requests that wait for the end of a pass (R81, R99, R100, R177) -/

/-- A frame is taken up outside a held reset alone (R179). -/
theorem State.held_of_takeUp {f : Frame} {wanted : Frame → Bool} (hf : s.takeUp wanted = some f) :
    s.link.resetHeld = false :=
  (State.takesUp_of_takeUp s f wanted hf).1.1

theorem State.Fits.execServiceOff (h : s.Fits) : LeadsTo (execServiceOff s) State.Fits := by
  unfold Machine.execServiceOff
  split
  · exact .next h
  · rename_i f hf
    refine .next ?_
    unfold State.decodeServiceOff
    split
    · exact h.joinAnswer _ _ _
    · split
      · exact h.joinAnswer _ _ _
      · exact h.deferUntilIdle (State.held_of_takeUp hf) _ _

theorem State.Fits.execFrameMark (h : s.Fits) : LeadsTo (execFrameMark s) State.Fits := by
  unfold Machine.execFrameMark
  split
  · exact .next h
  · rename_i f hf
    refine .next ?_
    unfold State.decodeFrameMark
    split
    · exact h.joinAnswer _ _ _
    · split
      · exact h.joinAnswer _ _ _
      · split
        · exact h.joinAnswer _ _ _
        · exact h.deferUntilIdle (State.held_of_takeUp hf) _ _

theorem State.Fits.execPlaceCandidate (h : s.Fits) (d : Direction) (begun : Bool) :
    LeadsTo (execPlaceCandidate d begun s) State.Fits := by
  unfold Machine.execPlaceCandidate
  split
  · rename_i hc
    obtain ⟨placing, -, held⟩ := hc
    exact .next (h.placerStep placing held d begun)
  · exact .next h

/-! #### Every command -/

/-- Every command keeps grants and placement; construction takes its candidates from acceptable tables. -/
theorem State.Fits.exec (h : s.Fits) (ht : s.TablesInv) (c : Instr) :
    LeadsTo (exec c s) State.Fits := by
  have answering (s : State) (f : Frame) (r : Result) (d : AnswerData) (h : s.Fits) :
      (s.joinAnswer f r d).Fits := h.joinAnswer f r d
  have arbiter (s : State) (h : s.Fits) : s.arbitrate.Fits := h.arbitrate
  have events (es : List Event) (s : State) (h : s.Fits) : (s.takeEvents es).Fits :=
    h.alerting (State.onlyAlerts_takeEvents s es)
  have discard (s : State) (a : DeviceAlert) (h : s.Fits) : (s.discardFrame a).Fits := h.discardFrame a
  have hunt (s : State) (h : s.Fits) : (s.putRx .hunt).Fits := h.with_link rfl
  have blockwise {block : List Byte → State → Reply}
      (hb : ∀ b s, State.Fits s → (block b s).state.Fits) (k : Request) (len : Nat)
      (rule : State → Option Result) : LeadsTo (s.runRequest k len rule block) State.Fits :=
    State.runRequest_keeps h answering hb k len rule
  have request {block : List Byte → State → Reply} (hb : KeepsBeside block) (he : KeepsEnergy block)
      (k : Request) (len : Nat) (rule : State → Option Result) :
      LeadsTo (s.runRequest k len rule block) State.Fits :=
    blockwise (fun b _ h => h.block hb he b) k len rule
  have batch {apply : List Byte → State → EntryTaken}
      (ha : ∀ (e : List Byte) (s : State), s.OnlyTable (apply e s).state) (k : Request)
      (codesOk : List Byte → Bool) (n : Nat) : LeadsTo (s.runBatch k codesOk apply n) State.Fits :=
    State.runBatch_keeps h answering arbiter events (fun e s h => h.table (ha e s))
      (fun _ _ h => h.with_link rfl) k codesOk n
  cases c with
  | receiveByte b =>
    refine .next ?_
    split
    · exact (h.receive b).arbitrate
    · exact h
  | framingError =>
    exact execFramingError_keeps h discard hunt (fun _ h => h.with_link rfl) arbiter
  | frameIdleTimeout => exact execFrameIdleTimeout_keeps h discard hunt arbiter
  | unknownKindRequest => exact execUnknownKindRequest_keeps h answering
  | status => exact request (fun _ _ => rfl) (fun _ _ => rfl) _ _ _
  | restart => exact execRestart_keeps h answering fun _ h => h.with_link rfl
  | serviceOn => exact blockwise (fun b _ h => h.serviceOnBlock b) _ _ _
  | serviceOff => exact h.execServiceOff
  | alertClear => exact request keepsBeside_alertClear keepsEnergy_alertClear _ _ _
  | alertMask => exact request keepsBeside_alertMask keepsEnergy_alertMask _ _ _
  | rateTable => exact request keepsBeside_rateTable keepsEnergy_rateTable _ _ _
  | trackSetup => exact request keepsBeside_trackSetup keepsEnergy_trackSetup _ _ _
  | classProfile => exact request keepsBeside_classProfile keepsEnergy_classProfile _ _ _
  | energyTable => exact blockwise (fun b _ h => h.energyTableBlock b) _ _ _
  | passSetup => exact request keepsBeside_passSetup keepsEnergy_passSetup _ _ _
  | admission => exact request keepsBeside_admission keepsEnergy_admission _ _ _
  | release =>
    exact request (keepsBeside_withNamed fun _ _ _ => rfl) (keepsEnergy_withNamed fun _ _ _ => rfl) _ _ _
  | suspend =>
    exact request (keepsBeside_withNamed suspendBlock_besideBlocks)
      (keepsEnergy_withNamed suspendBlock_energy) _ _ _
  | resume =>
    exact request (keepsBeside_withNamed resumeBlock_besideBlocks)
      (keepsEnergy_withNamed resumeBlock_energy) _ _ _
  | linkUpdate =>
    exact request (fun b t => keepsBeside_withNamed (linkUpdateFields_besideBlocks b) b t)
      (fun b t => keepsEnergy_withNamed (linkUpdateFields_energy b) b t) _ _ _
  | subscriberRead => exact request keepsBeside_subscriberRead keepsEnergy_subscriberRead _ _ _
  | frameMark => exact h.execFrameMark
  | qualityBatch n => exact batch State.onlyTable_qualityEntry _ _ n
  | queueBatch n => exact batch State.onlyTable_queueEntry _ _ n
  | outcomeBatch n => exact batch State.onlyTable_outcomeEntry _ _ n
  | energyReport => exact blockwise (fun b _ h => h.energyReportBlock b) _ _ _
  | monitorSetup =>
    exact execMonitorSetup_keeps h answering fun b _ h =>
      h.block keepsBeside_monitorSetup keepsEnergy_monitorSetup b
  | monitorSetupBuffer =>
    exact execMonitorSetupBuffer_keeps h answering fun b _ h =>
      h.block keepsBeside_bufferSetup keepsEnergy_bufferSetup b
  | counterRead => exact request keepsBeside_counterRead keepsEnergy_counterRead _ _ _
  | captureRead => exact request keepsBeside_captureRead keepsEnergy_captureRead _ _ _
  | traceRead => exact request (fun _ _ => rfl) (fun _ _ => rfl) _ _ _
  | traceResume => exact request (fun _ _ => rfl) (fun _ _ => rfl) _ _ _
  | messageSent =>
    exact execMessageSent_keeps h (fun _ t h => h.leaveLine t) (fun _ h => h.with_link rfl) arbiter
  | powerOn b1 b0 =>
    refine .next ?_
    split
    · exact h
    · exact s.deviceReset_fits b1 b0
  | resetLineAssert =>
    refine .next ?_
    split
    · exact h
    · exact h.holdInReset
  | resetLineRelease b1 b0 =>
    refine .next ?_
    split
    · exact s.deviceReset_fits b1 b0
    · exact h
  | restartReset b1 b0 =>
    refine .next ?_
    split
    · exact s.deviceReset_fits b1 b0
    · exact h
  | constructSlot => exact h.execConstructSlot ht
  | placeCandidate d begun => exact h.execPlaceCandidate d begun
  | deadlineExpiry => exact h.execDeadlineExpiry
  | lineReturnToIdle => exact .next (h.with_link rfl)

end

/-- Settles O58: of the line the step rests on one entry at most being SENDING, of the tables on the ranges
that a candidate takes from them; the invariant of the pass it does not need. -/
theorem grantAndPlacementInvariantKept : Obligations.GrantAndPlacementInvariantKept := by
  unfold Obligations.GrantAndPlacementInvariantKept step
  intro s t line _ tables grants placement ht
  obtain ⟨agrees, -⟩ := line
  have fits : s.Fits := ⟨grants, placement, agrees.headSends⟩
  have kept : t.Fits := by
    cases hp : s.pending with
    | nil =>
      rw [hp] at ht
      cases ht
      exact fits
    | cons c cs =>
      rw [hp] at ht
      exact State.Fits.exec (s := s.withPending cs) (fits.stands ⟨rfl, rfl, .refl _⟩) tables c t ht
  exact ⟨kept.grants, kept.placement⟩

end Sys2Proof.Machine

/-! ### What the arbiter chooses (R133, R174) -/

namespace Sys2Proof.Machine

section
variable {s : State}

/-- On a free line the arbiter chooses the best of what is offered (R174). -/
theorem State.choice_of_free (free : s.link.tx = none) (held : s.link.resetHeld = false)
    (due : s.link.restart ≠ .resetDue) (b : Bool) : s.choice b = s.offered b := by
  unfold State.choice
  rw [free, held, beq_false_of_ne due]
  rfl

/-- What is chosen is chosen on a free line, with no restart's reset due. -/
theorem State.choice_some {b : Bool} {t : Transmission} (h : s.choice b = some t) :
    s.link.tx = none ∧ s.link.restart ≠ .resetDue ∧ s.offered b = some t := by
  unfold State.choice at h
  split at h
  · cases h
  · rename_i free
    simp only [Bool.or_eq_true, not_or, Bool.not_eq_true, Option.isSome_eq_false_iff,
      Option.isNone_iff_eq_none, beq_iff_eq] at free
    obtain ⟨⟨free, -⟩, due⟩ := free
    exact ⟨free, due, h⟩

/-- What is offered is the head of its source, and a notice is WAITING. -/
theorem State.offered_some {b : Bool} {t : Transmission} (h : s.offered b = some t) :
    (∃ a as, s.link.answers = a :: as ∧ t = ⟨.answers, answerFrame a⟩)
      ∨ (∃ n p es,
          s.notices.grants = ⟨n, .waiting, p⟩ :: es ∧ t = ⟨.grants, grantNoticeFrame n⟩)
      ∨ ∃ n es,
          s.notices.general = ⟨n, .waiting⟩ :: es ∧ t = ⟨.general, generalNoticeFrame n⟩ := by
  unfold State.offered at h
  split at h
  · rename_i a as answers
    cases h
    split at answers
    · cases answers
    · exact .inl ⟨a, as, answers, rfl⟩
  · rename_i n p es _ grants
    cases h
    exact .inr (.inl ⟨n, p, es, grants, rfl⟩)
  · rename_i n es _ general _
    cases h
    exact .inr (.inr ⟨n, es, general, rfl⟩)
  · cases h

theorem State.offered_of_answer {a : Answer} {as : List Answer} (h : s.link.answers = a :: as) :
    s.offered false = some ⟨.answers, answerFrame a⟩ := by
  unfold State.offered
  rw [if_neg Bool.false_ne_true, h]

theorem State.offered_of_grant (answers : s.link.answers = []) {n : GrantNotice} {p : U32}
    {es : List GrantEntry} (h : s.notices.grants = ⟨n, .waiting, p⟩ :: es) :
    s.offered false = some ⟨.grants, grantNoticeFrame n⟩ := by
  unfold State.offered
  rw [if_neg Bool.false_ne_true, answers, h]

theorem State.offered_of_general (answers : s.link.answers = [])
    (grants : ∀ e, s.notices.grants.head? = some e → e.mark = .sending) {n : GeneralNotice}
    {es : List GeneralEntry} (h : s.notices.general = ⟨n, .waiting⟩ :: es) :
    s.offered false = some ⟨.general, generalNoticeFrame n⟩ := by
  unfold State.offered
  rw [if_neg Bool.false_ne_true, answers, h]
  match hg : s.notices.grants with
  | [] => rfl
  | ⟨_, .sending, _⟩ :: _ => rfl
  | ⟨_, .waiting, _⟩ :: _ => cases grants _ (by rw [hg]; rfl)

/-- Nothing is offered when no answer waits and neither section has a WAITING head. -/
theorem State.offered_eq_none_iff :
    s.offered false = none
      ↔ s.link.answers = []
        ∧ (∀ e, s.notices.grants.head? = some e → e.mark = .sending)
        ∧ ∀ e, s.notices.general.head? = some e → e.mark = .sending := by
  constructor
  · intro h
    have answers : s.link.answers = [] := by
      cases ha : s.link.answers with
      | nil => rfl
      | cons a as =>
        rw [State.offered_of_answer ha] at h
        cases h
    have grants (e : GrantEntry) (he : s.notices.grants.head? = some e) : e.mark = .sending := by
      obtain ⟨es, hg⟩ := List.head?_eq_some_iff.mp he
      obtain ⟨n, m, p⟩ := e
      cases m with
      | sending => rfl
      | waiting =>
        rw [State.offered_of_grant answers hg] at h
        cases h
    refine ⟨answers, grants, fun e he => ?_⟩
    obtain ⟨es, hg⟩ := List.head?_eq_some_iff.mp he
    obtain ⟨n, m⟩ := e
    cases m with
    | sending => rfl
    | waiting =>
      rw [State.offered_of_general answers grants hg] at h
      cases h
  · rintro ⟨answers, grants, general⟩
    cases h : s.offered false with
    | none => rfl
    | some t =>
      rcases State.offered_some h with ⟨a, as, ha, -⟩ | ⟨n, p, es, hg, -⟩ | ⟨n, es, hg, -⟩
      · rw [answers] at ha
        cases ha
      · cases grants _ (by rw [hg]; rfl)
      · cases general _ (by rw [hg]; rfl)

/-! #### The state after a choice -/

theorem State.begin_answers (bs : List Byte) :
    s.begin (some ⟨.answers, bs⟩)
      = { s with link := { s.link with tx := some ⟨.answers, bs⟩ } } := rfl

theorem State.begin_grants {n : GrantNotice} {m : Mark} {p : U32} {es : List GrantEntry}
    (h : s.notices.grants = ⟨n, m, p⟩ :: es) (bs : List Byte) :
    s.begin (some ⟨.grants, bs⟩)
      = { s with
          link := { s.link with tx := some ⟨.grants, bs⟩ }
          notices := { s.notices with grants := ⟨n, .sending, p⟩ :: es } } := by
  show { s with
    link := _, notices := { s.notices with grants := markGrantHead s.notices.grants } } = _
  rw [h]
  rfl

theorem State.begin_general {n : GeneralNotice} {m : Mark} {es : List GeneralEntry}
    (h : s.notices.general = ⟨n, m⟩ :: es) (bs : List Byte) :
    s.begin (some ⟨.general, bs⟩)
      = { s with
          link := { s.link with tx := some ⟨.general, bs⟩ }
          notices := { s.notices with general := ⟨n, .sending⟩ :: es } } := by
  show { s with
    link := _, notices := { s.notices with general := markGeneralHead s.notices.general } } = _
  rw [h]
  rfl

end

/-- Settles O10: what is offered on a free line, best first, and the state after that choice. -/
theorem arbiterChoosesBest : Obligations.ArbiterChoosesBest := by
  unfold Obligations.ArbiterChoosesBest
  intro s held due
  refine ⟨s.arbitrate_of_busy, fun free => ?_⟩
  have chosen : s.arbitrate = s.begin (s.offered false) :=
    congrArg s.begin (State.choice_of_free free held due false)
  rw [chosen]
  refine ⟨fun a as ha => ?_, fun answers => ⟨fun n p es hg => ?_, fun sending => ⟨fun n es hg => ?_,
    fun last => ?_⟩⟩⟩
  · rw [State.offered_of_answer ha, State.begin_answers]
  · rw [State.offered_of_grant answers hg, State.begin_grants hg]
  · rw [State.offered_of_general answers sending hg, State.begin_general hg]
  · rw [State.offered_eq_none_iff.mpr ⟨answers, sending, last⟩, State.begin_none]

end Sys2Proof.Machine

/-! ### A device alert that is latched (R142, R181) -/

namespace Sys2Proof.Machine

/-- The general section has no room left exactly when it holds its 24 entries (R142). -/
theorem State.room_eq_zero_iff (s : State) : s.room = 0 ↔ 24 ≤ s.notices.general.length :=
  Nat.sub_eq_zero_iff_le

/-- Settles O7: a latch as `State.Latches` says it, of one notice at most. -/
theorem deviceAlertLatches : Obligations.DeviceAlertLatches := by
  unfold Obligations.DeviceAlertLatches
  intro s a frame
  refine ⟨fun latched => if_pos latched, fun new => ?_⟩
  have latches := s.latches_latchDevice a frame
  have slots := (State.onlyAlerts_latchDevice s a frame).slots
  refine ⟨(s.latchDevice a frame).link.alerts, (s.latchDevice a frame).notices.general, ?_,
    fun k => ?_, ?_⟩
  · have framed := latches.frame
    rw [slots] at framed
    exact framed
  · rw [latches.alerts, new]
    cases masked : s.masked (.device a) with
    | true => simp
    | false => simp [State.room_eq_zero_iff]
  · rw [latches.general, new]
    cases masked : s.masked (.device a) with
    | true => simp
    | false =>
      by_cases full : s.room = 0
      · simp [full, s.room_eq_zero_iff.mp full]
      · have room : s.notices.general.length < 24 := Nat.not_le.mp (mt s.room_eq_zero_iff.mpr full)
        simp [room, List.take_of_length_le (show [_].length ≤ s.room from Nat.one_le_iff_ne_zero.mpr full)]

end Sys2Proof.Machine

/-! ### Records, chunks and the flush (R135, R136) -/

namespace Sys2Proof.Machine

section
variable {s : State} {d : Direction}

/-- A record that leaves its assembler short of the chunk size is pending (R135). -/
theorem State.handRecord_of_short {g : GrantRecord}
    (h : (s.notices.assemblers.get d).pending.length + 1 ≠ (s.notices.assemblers.get d).chunk) :
    s.handRecord d g
      = s.putAssembler d
          { s.notices.assemblers.get d with pending := (s.notices.assemblers.get d).pending ++ [g] } := by
  unfold State.handRecord
  exact if_neg (by rw [List.length_append, List.length_singleton]; exact h)

/-- A record that fills the chunk size has all pending records queued with it (R135). -/
theorem State.handRecord_of_full {g : GrantRecord}
    (h : (s.notices.assemblers.get d).pending.length + 1 = (s.notices.assemblers.get d).chunk) :
    s.handRecord d g
      = s.queueChunk d
          { s.notices.assemblers.get d with pending := (s.notices.assemblers.get d).pending ++ [g] } := by
  unfold State.handRecord
  exact if_pos (by rw [List.length_append, List.length_singleton]; exact h)

/-- The flush of an assembler with records pending queues them and closes it (R136). -/
theorem State.flush_of_pending (h : (s.notices.assemblers.get d).pending ≠ []) :
    s.flush d
      = (s.queueChunk d (s.notices.assemblers.get d)).putAssembler d
          { s.notices.assemblers.get d with
            stage := .closed, pending := [], seq := (s.notices.assemblers.get d).seq + 1 } := by
  have emptied : (s.queueChunk d (s.notices.assemblers.get d)).notices.assemblers.get d
      = { s.notices.assemblers.get d with
          pending := [], seq := (s.notices.assemblers.get d).seq + 1 } :=
    PerDir.get_put_same _ d _
  unfold State.flush
  dsimp only
  rw [if_neg h, emptied]

end

/-- Settles O51: a record by the chunk size, and a flush by what is pending. -/
theorem chunksFollowRecords : Obligations.ChunksFollowRecords := by
  unfold Obligations.ChunksFollowRecords
  intro s d
  refine ⟨fun g => ⟨State.handRecord_of_short, fun full => ?_⟩, State.flush_of_no_pending,
    fun pending => ?_⟩
  · rw [State.handRecord_of_full full, State.queueChunk_shape]
    rfl
  · rw [State.flush_of_pending pending, State.queueChunk_shape, State.putAssembler, PerDir.put_put]
    rfl

end Sys2Proof.Machine

/-! ### A message that has been sent (R133, R173, R178) -/

namespace Sys2Proof.Machine

section
variable {s : State} {t : Transmission}

/-- The reset falls due after the last answer of an accepted RESTART (R178). -/
theorem State.restartAnswerSent_iff :
    s.restartAnswerSent t = true
      ↔ s.link.restart = .answerQueued ∧ t.source = .answers ∧ s.link.answers.length = 1 := by
  unfold State.restartAnswerSent
  rw [Bool.and_eq_true, Bool.and_eq_true, beq_iff_eq, beq_iff_eq, beq_iff_eq, and_assoc]

/-- On a free line there is no last byte to send (log 1). -/
theorem execMessageSent_of_free (h : s.link.tx = none) : execMessageSent s = .next s := by
  unfold execMessageSent
  rw [h]

theorem execMessageSent_of_restarting (h : s.link.tx = some t) (sent : s.restartAnswerSent t = true) :
    execMessageSent s
      = .next { s.leaveLine t with link := { (s.leaveLine t).link with restart := .resetDue } } := by
  unfold execMessageSent
  rw [h]
  exact if_pos sent

theorem execMessageSent_of_sending (h : s.link.tx = some t) (sent : s.restartAnswerSent t = false) :
    execMessageSent s = .next (s.leaveLine t).arbitrate := by
  unfold execMessageSent
  rw [h]
  exact if_neg (by rw [sent]; exact Bool.false_ne_true)

/-- A notice is no answer of a RESTART. -/
theorem State.restartAnswerSent_of_notice (h : t.source ≠ .answers) : s.restartAnswerSent t = false := by
  refine Bool.eq_false_iff.mpr fun sent => ?_
  obtain ⟨-, source, -⟩ := State.restartAnswerSent_iff.mp sent
  exact h source

end

/-- Settles O11: by the source of the message on TXD. -/
theorem messageSentLeavesItsSource : Obligations.MessageSentLeavesItsSource := by
  unfold Obligations.MessageSentLeavesItsSource
  intro s
  refine ⟨execMessageSent_of_free, fun bs sending => ?_, fun bs sending => ?_, fun bs sending => ?_⟩
  · show execMessageSent s = _
    by_cases last : s.link.restart = .answerQueued ∧ s.link.answers.length = 1
    · have none : s.link.answers.tail = [] :=
        List.eq_nil_of_length_eq_zero (by rw [List.length_tail, last.2])
      rw [if_pos last, execMessageSent_of_restarting sending
        (State.restartAnswerSent_iff.mpr ⟨last.1, rfl, last.2⟩), ← none]
      rfl
    · rw [if_neg last, execMessageSent_of_sending sending]
      · rfl
      · refine Bool.eq_false_iff.mpr fun sent => ?_
        obtain ⟨queued, -, one⟩ := State.restartAnswerSent_iff.mp sent
        exact last ⟨queued, one⟩
  · exact execMessageSent_of_sending sending (State.restartAnswerSent_of_notice Source.noConfusion)
  · exact execMessageSent_of_sending sending (State.restartAnswerSent_of_notice Source.noConfusion)

end Sys2Proof.Machine

/-! ### The line within a taking, before the arbiter chooses (R132, R133, R173, R174) -/

namespace Sys2Proof.Machine

/-- Of the link, what `State.LineInv` says without the message on TXD. -/
def Link.Orderly (l : Link) : Prop :=
  l.answers.length ≤ Config.answerCapacity
    ∧ (l.decoding.waits = true → l.answers.length < Config.answerCapacity)
    ∧ (l.decoding ≠ .idle → l.accepted ≠ [])
    ∧ (l.restart = .answerQueued → l.answers ≠ [])
    ∧ (l.restart ≠ .none → l.decoding = .idle ∧ l.accepted = [])

/-- What `State.LineInv` says within a taking: what is offered need not have been chosen from yet. -/
def State.Lined (s : State) : Prop :=
  s.TxAgrees ∧ s.notices.general.length ≤ Config.generalCapacity
    ∧ (s.link.restart = .resetDue → s.link.tx = none) ∧ s.link.Orderly

/-- The line is free only when nothing is offered, or nothing may be chosen. -/
def State.Chosen (s : State) : Prop :=
  s.link.tx = none → s.link.resetHeld = false → s.link.restart ≠ .resetDue →
    s.link.answers = [] ∧ s.notices.grants = [] ∧ s.notices.general = []

theorem State.lineInv_iff (s : State) : s.LineInv ↔ s.Lined ∧ s.Chosen := by
  constructor
  · rintro ⟨agrees, chosen, answers, general, room, frame, queued, due, restarting⟩
    exact ⟨⟨agrees, general, due, answers, room, frame, queued, restarting⟩, chosen⟩
  · rintro ⟨⟨agrees, general, due, answers, room, frame, queued, restarting⟩, chosen⟩
    exact ⟨agrees, chosen, answers, general, room, frame, queued, due, restarting⟩

/-- `fs` is what has become of the section `es`: none SENDING if none was, and a SENDING head where it was,
with none SENDING behind it. -/
structure Carries {α : Type} (mark : α → Mark) (es fs : List α) : Prop where
  waiting : (∀ e ∈ es, mark e = .waiting) → ∀ e ∈ fs, mark e = .waiting
  sending : ∀ e rest, es = e :: rest → mark e = .sending → (∀ r ∈ rest, mark r = .waiting) →
    ∃ rest', fs = e :: rest' ∧ ∀ r ∈ rest', mark r = .waiting

section
variable {α : Type} {mark : α → Mark}

theorem Carries.refl (es : List α) : Carries mark es es := ⟨id, fun _ rest he _ hr => ⟨rest, he, hr⟩⟩

/-- WAITING entries join the tail. -/
theorem carries_append (es : List α) {more : List α} (hmore : ∀ e ∈ more, mark e = .waiting) :
    Carries mark es (es ++ more) := by
  refine ⟨fun hes => List.forall_mem_append.mpr ⟨hes, hmore⟩, fun e rest he _ hr => ⟨rest ++ more, ?_,
    List.forall_mem_append.mpr ⟨hr, hmore⟩⟩⟩
  rw [he, List.cons_append]

/-- Entries are removed, and what is SENDING stays. -/
theorem carries_filter (es : List α) {p : α → Bool} (hp : ∀ e, mark e = .sending → p e = true) :
    Carries mark es (es.filter p) := by
  refine ⟨fun hes e he => hes e (List.mem_of_mem_filter he), fun e rest he sending hr =>
    ⟨rest.filter p, ?_, fun r h => hr r (List.mem_of_mem_filter h)⟩⟩
  rw [he, List.filter_cons_of_pos (hp e sending)]

/-- A SENDING head that is on the line stays there. -/
theorem Carries.head {es fs : List α} (h : Carries mark es fs) {frame : α → List Byte} {bytes : List Byte}
    (head : (es.head?.map fun e => (frame e, mark e)) = some (bytes, .sending))
    (tail : ∀ e ∈ es.tail, mark e = .waiting) :
    (fs.head?.map fun e => (frame e, mark e)) = some (bytes, .sending)
      ∧ ∀ e ∈ fs.tail, mark e = .waiting := by
  obtain ⟨e, he, hb⟩ := Option.map_eq_some_iff.mp head
  obtain ⟨rest, rfl⟩ := List.head?_eq_some_iff.mp he
  obtain ⟨rest', rfl, waiting⟩ := h.sending e rest rfl (congrArg Prod.snd hb) tail
  exact ⟨congrArg some hb, waiting⟩

end

section
variable {s t : State}

theorem State.LineInv.lined (h : s.LineInv) : s.Lined := (s.lineInv_iff.mp h).1

/-- On a free line nothing is SENDING. -/
theorem State.TxAgrees.waiting (h : s.TxAgrees) (free : s.link.tx = none) :
    allWaiting s.notices.grants s.notices.general := by
  unfold State.TxAgrees at h
  rw [free] at h
  exact h

/-- The line agrees with its source while answers join behind those there are, and the sections carry what
they hold on. -/
theorem State.TxAgrees.carried (h : s.TxAgrees) (tx : t.link.tx = s.link.tx)
    (answers : s.link.answers <+: t.link.answers)
    (grants : Carries GrantEntry.mark s.notices.grants t.notices.grants)
    (general : Carries GeneralEntry.mark s.notices.general t.notices.general) : t.TxAgrees := by
  unfold State.TxAgrees at h ⊢
  rw [tx]
  split at h
  · obtain ⟨grantsWait, generalWait⟩ := h
    exact ⟨grants.waiting grantsWait, general.waiting generalWait⟩
  · obtain ⟨head, grantsWait, generalWait⟩ := h
    obtain ⟨more, joined⟩ := answers
    obtain ⟨a, ha, hb⟩ := Option.map_eq_some_iff.mp head
    refine ⟨?_, grants.waiting grantsWait, general.waiting generalWait⟩
    rw [← joined, List.head?_append, ha]
    exact congrArg some hb
  · obtain ⟨head, tail, quiet⟩ := h
    obtain ⟨head, tail⟩ := grants.head head tail
    exact ⟨head, tail, general.waiting quiet⟩
  · obtain ⟨head, quiet, tail⟩ := h
    obtain ⟨head, tail⟩ := general.head head tail
    exact ⟨head, grants.waiting quiet, tail⟩

/-- Answers join and sections carry on within a taking. -/
theorem State.Lined.carried (h : s.Lined) (tx : t.link.tx = s.link.tx)
    (answers : s.link.answers <+: t.link.answers)
    (grants : Carries GrantEntry.mark s.notices.grants t.notices.grants)
    (general : Carries GeneralEntry.mark s.notices.general t.notices.general)
    (room : t.notices.general.length ≤ Config.generalCapacity)
    (restart : t.link.restart = s.link.restart) (orderly : t.link.Orderly) : t.Lined := by
  obtain ⟨agrees, -, due, -⟩ := h
  refine ⟨agrees.carried tx answers grants general, room, fun hd => ?_, orderly⟩
  rw [tx]
  exact due (restart.symm.trans hd)

/-- WAITING entries join the grant section. -/
theorem State.Lined.join_grants (h : s.Lined) {more : List GrantEntry}
    (hmore : ∀ e ∈ more, e.mark = .waiting) :
    State.Lined { s with notices := { s.notices with grants := s.notices.grants ++ more } } := by
  obtain ⟨-, room, -, orderly⟩ := id h
  exact h.carried rfl ⟨[], List.append_nil _⟩ (carries_append _ hmore) (.refl _) room rfl orderly

/-- The purge removes no entry that is SENDING (R139). -/
theorem State.Lined.filter_grants (h : s.Lined) {p : GrantEntry → Bool}
    (hp : ∀ e, e.mark = .sending → p e = true) :
    State.Lined { s with notices := { s.notices with grants := s.notices.grants.filter p } } := by
  obtain ⟨-, room, -, orderly⟩ := id h
  exact h.carried rfl ⟨[], List.append_nil _⟩ (carries_filter _ hp) (.refl _) room rfl orderly

/-- WAITING notices join the general section within its capacity. -/
theorem State.Lined.join_general (h : s.Lined) {more : List GeneralEntry}
    (hmore : ∀ e ∈ more, e.mark = .waiting)
    (capacity : s.notices.general.length ≤ Config.generalCapacity →
      (s.notices.general ++ more).length ≤ Config.generalCapacity) :
    State.Lined { s with notices := { s.notices with general := s.notices.general ++ more } } := by
  obtain ⟨-, room, -, orderly⟩ := id h
  exact h.carried rfl ⟨[], List.append_nil _⟩ (.refl _) (carries_append _ hmore) (capacity room) rfl orderly

theorem State.Lined.alerting (h : s.Lined) (ho : s.OnlyAlerts t) : t.Lined := by
  obtain ⟨al, more, mo, rfl, waiting, capacity, -⟩ := ho
  exact h.join_general waiting capacity

theorem State.Lined.table (h : s.Lined) (ho : s.OnlyTable t) : t.Lined := by
  obtain ⟨sl, ho⟩ := ho
  exact State.Lined.alerting (s := { s with slots := sl }) h ho

/-- What the owning blocks write does not bear on the line. -/
theorem State.lined_besideBlocks : s.besideBlocks.Lined ↔ s.Lined := Iff.rfl

theorem State.Lined.block (h : s.Lined) {block : List Byte → State → Reply} (hb : KeepsBeside block)
    (b : List Byte) : (block b s).state.Lined := by
  rw [← State.lined_besideBlocks, hb, State.lined_besideBlocks]
  exact h

/-! #### The arbiter ends a taking -/

/-- A message is put on a free line whose reset is not due. -/
theorem State.Lined.begun (h : s.Lined) (due : s.link.restart ≠ .resetDue) (agrees : t.TxAgrees)
    (link : t.link = { s.link with tx := t.link.tx })
    (general : t.notices.general.length = s.notices.general.length) : t.Lined := by
  obtain ⟨-, room, -, orderly⟩ := h
  refine ⟨agrees, general.trans_le room, fun hd => ?_, ?_⟩
  · rw [link] at hd
    exact absurd hd due
  · rw [link]
    exact orderly

/-- A choice of the arbiter: the message agrees with its source, and its notice alone is SENDING (R133,
R174). -/
theorem State.Lined.begin (h : s.Lined) (b : Bool) : (s.begin (s.choice b)).Lined := by
  obtain ⟨agrees, -⟩ := id h
  cases hc : s.choice b with
  | none =>
    rw [State.begin_none]
    exact h
  | some m =>
    obtain ⟨free, due, offered⟩ := State.choice_some hc
    obtain ⟨grants, general⟩ := agrees.waiting free
    rcases State.offered_some offered with ⟨a, as, ha, rfl⟩ | ⟨n, p, es, hg, rfl⟩
      | ⟨n, es, hg, rfl⟩
    · rw [State.begin_answers]
      refine h.begun due ⟨?_, grants, general⟩ rfl rfl
      show s.link.answers.head?.map answerFrame = _
      rw [ha]
      rfl
    · rw [State.begin_grants hg]
      rw [hg] at grants
      exact h.begun due ⟨rfl, fun e he => grants e (List.mem_cons_of_mem _ he), general⟩ rfl rfl
    · rw [State.begin_general hg]
      refine h.begun due ⟨rfl, grants, fun e he => ?_⟩ rfl ?_
      · rw [hg] at general
        exact general e (List.mem_cons_of_mem _ he)
      · rw [hg]
        rfl

/-- After the arbiter's choice nothing offered waits for a free line. -/
theorem State.Lined.chosen_arbitrate (h : s.Lined) : s.arbitrate.Chosen := by
  obtain ⟨agrees, -⟩ := h
  intro free held due
  cases hc : s.choice false with
  | some m =>
    have sending : s.arbitrate.link.tx = some m := by
      unfold State.arbitrate
      rw [hc]
      rfl
    rw [sending] at free
    cases free
  | none =>
    have still : s.arbitrate = s := by
      unfold State.arbitrate
      rw [hc, State.begin_none]
    rw [still] at free held due ⊢
    rw [State.choice_of_free free held due] at hc
    obtain ⟨answers, grants, general⟩ := State.offered_eq_none_iff.mp hc
    obtain ⟨grantsWait, generalWait⟩ := agrees.waiting free
    refine ⟨answers, List.head?_eq_none_iff.mp (Option.eq_none_iff_forall_ne_some.mpr fun e he => ?_),
      List.head?_eq_none_iff.mp (Option.eq_none_iff_forall_ne_some.mpr fun e he => ?_)⟩
    · have := grantsWait e (List.mem_of_mem_head? he)
      rw [grants e he] at this
      cases this
    · have := generalWait e (List.mem_of_mem_head? he)
      rw [general e he] at this
      cases this

/-- The arbiter's choice ends a taking. -/
theorem State.Lined.arbitrate (h : s.Lined) : s.arbitrate.LineInv :=
  s.arbitrate.lineInv_iff.mpr ⟨h.begin false, h.chosen_arbitrate⟩

/-! #### A decoding ends, or stands (R169, R173) -/

/-- An answer joins a queue that has room for it, and its decoding ends. -/
theorem State.Lined.answered (h : s.Lined) (room : s.link.answers.length < Config.answerCapacity)
    (a : Answer) (n : Nat) :
    State.Lined
      { s with
        draws := n
        link :=
          { s.link with
            answers := s.link.answers ++ [a], accepted := s.link.accepted.tail, decoding := .idle } } := by
  obtain ⟨-, general, -, -, -, -, -, restarting⟩ := id h
  refine h.carried rfl ⟨_, rfl⟩ (.refl _) (.refl _) general rfl
    ⟨?_, Bool.noConfusion, fun hd => absurd rfl hd, fun _ => ?_, fun hr => ⟨rfl, ?_⟩⟩
  · show (s.link.answers ++ [a]).length ≤ _
    rw [List.length_append]
    exact room
  · exact List.append_ne_nil_of_right_ne_nil _ (List.cons_ne_nil _ _)
  · show s.link.accepted.tail = []
    rw [(restarting hr).2]
    rfl

theorem State.Lined.joinAnswer (h : s.Lined) (room : s.link.answers.length < Config.answerCapacity)
    (f : Frame) (r : Result) (d : AnswerData) : (s.joinAnswer f r d).LineInv := by
  unfold State.joinAnswer
  dsimp only
  refine State.Lined.arbitrate ?_
  split
  · exact (h.begin true).answered room _ _
  · exact h.answered room _ _

/-- A decoding stands, with its frame and with room for its answer (R169, R178). -/
theorem State.Lined.withDecoding (h : s.Lined) (frame : s.link.accepted ≠ [])
    (room : s.link.answers.length < Config.answerCapacity) (restart : s.link.restart = .none)
    (w : Decoding) : (s.withDecoding w).Lined := by
  obtain ⟨agrees, general, due, answers, -, -, queued, -⟩ := h
  exact ⟨agrees, general, due, answers, fun _ => room, fun _ => frame, queued,
    fun hr => absurd restart hr⟩

end

end Sys2Proof.Machine

/-! ### Passes start, complete and are cut off (R82, R83, R96 to R101, R128, R139) -/

namespace Sys2Proof.Machine

section
variable {s : State}

/-- A pass start purges WAITING entries alone (R139). -/
theorem State.Lined.startPass (h : s.Lined) (F : U16) : (s.startPass F).Lined := by
  have purged : (s.passStarted F).Lined := h.filter_grants fun e sending => by
    rw [GrantEntry.not_purged, sending]
    rfl
  exact purged.table (State.onlyTable_startPass s F)

/-- The frame that waited is answered. -/
theorem State.Lined.answerHead (h : s.Lined) (frame : s.link.accepted ≠ [])
    (room : s.link.answers.length < Config.answerCapacity) (r : Result) : (s.answerHead r).LineInv := by
  rw [State.answerHead_eq (List.head?_eq_some_head frame)]
  exact h.joinAnswer room _ _ _

theorem State.Lined.startMarkedPass (h : s.Lined) (frame : s.link.accepted ≠ [])
    (room : s.link.answers.length < Config.answerCapacity) (F : U16) :
    (s.startMarkedPass F).LineInv := by
  have link := s.startPass_link F
  have answered : ((s.startPass F).answerHead .ok).LineInv :=
    (h.startPass F).answerHead (by rw [link]; exact frame) (by rw [link]; exact room) .ok
  rcases State.startMarkedPass_cases s F with he | ⟨b, ho, he⟩
  · rw [he]
    exact answered
  · rw [he]
    exact (answered.lined.alerting ho).arbitrate

/-- What waited for the end of a pass has its frame, and room for its answer. -/
theorem State.LineInv.resolveDeferred (h : s.LineInv) : s.resolveDeferred.LineInv := by
  obtain ⟨-, -, -, orderly⟩ := h.lined
  obtain ⟨-, room, frame, -⟩ := orderly
  unfold State.resolveDeferred
  split
  · rename_i F hd
    rw [hd] at room frame
    exact h.lined.startMarkedPass (frame Decoding.noConfusion) (room rfl) F
  · rename_i hd
    rw [hd] at room frame
    exact State.Lined.answerHead (s := { s with link := { s.link with device := .config } }) h.lined
      (frame Decoding.noConfusion) (room rfl) .ok
  · exact h
  · exact h

/-- MAP_END joins the grant section, notices the general one, and the arbiter ends the taking (R101, R138). -/
theorem State.Lined.complete (h : s.Lined) : s.complete.LineInv := by
  obtain ⟨al, more, mo, sl, b, he, rfl, waiting, capacity, -⟩ := State.complete_footprint s
  have joined : s.completed.Lined := h.join_grants fun e hmem => by
    rw [List.mem_singleton.mp hmem]
  rw [he]
  exact State.Lined.arbitrate (joined.join_general waiting capacity)

theorem State.Lined.flush (h : s.Lined) (d : Direction) : (s.flush d).Lined := by
  obtain ⟨more, rs, q, he, waiting⟩ := State.flush_shape s d
  rw [he]
  exact h.join_grants fun e hmem => (waiting e hmem).1

/-- A Placer ends: the other one runs on, or the pass completes and what waited for it is resolved. -/
theorem State.Lined.endPlacer (h : s.Lined) (d : Direction) (why : EndReason) :
    (s.endPlacer d why).LineInv := by
  have ended : (s.endedPlacer d why).Lined :=
    State.Lined.flush (s := s.putPlacer d { s.placers.get d with stage := .ended why }) h d
  rw [State.endPlacer_eq]
  unfold State.afterEnd
  split
  · exact ended.complete.resolveDeferred
  · exact ended.arbitrate

theorem State.Lined.beginPlacement (h : s.Lined) : s.beginPlacement.Lined := by
  have taken : (s.orderLists.takeAllowance
      (s.orderLists.emergencyListed s.orderLists.ranker.lists.dl)).Lined := by
    refine State.Lined.alerting ?_ (State.onlyAlerts_takeAllowance _ _)
    exact h
  exact taken

/-- A construction cut off: its Placers start, stop and complete, the arbiter choosing after each (R98). -/
theorem State.Lined.cutConstruction (h : s.Lined) (c : Cause) : (s.cutConstruction c).LineInv := by
  have begun := State.Lined.beginPlacement (s := { s with ranker := { s.ranker with cause := some c } }) h
  have stopped {x : State} (hx : x.Lined) (d : Direction) : (x.stopPlacer d).Lined :=
    State.Lined.flush (s := x.putPlacer d { x.placers.get d with stage := .ended .stopped }) hx d
  exact (stopped (stopped begun .dl).arbitrate.lined .ul).complete

theorem State.LineInv.truncate (h : s.LineInv) (c : Cause) : (s.truncate c).LineInv := by
  cases hs : s.ranker.stage with
  | idle =>
    rw [State.truncate_idle s c hs]
    exact h
  | constructing =>
    rw [State.truncate_constructing s c hs, State.truncateConstruction_eq]
    exact (h.lined.cutConstruction _).resolveDeferred
  | placing =>
    rw [State.truncate_placing s c hs]
    exact h

/-- A FRAME_MARK or SERVICE_OFF taken up is resolved at once, or waits with its frame (R82, R99, R100). -/
theorem State.LineInv.deferUntilIdle (h : s.LineInv) {f : Frame} (ht : s.TakesUp f) (w : Decoding)
    (c : Cause) : (s.deferUntilIdle w c).LineInv := by
  obtain ⟨-, restart, room, -, head⟩ := ht
  have frame : s.link.accepted ≠ [] := fun ha => by
    rw [ha] at head
    cases head
  obtain ⟨lined, chosen⟩ := s.lineInv_iff.mp h
  have waiting : (s.withDecoding w).LineInv :=
    (State.lineInv_iff _).mpr ⟨lined.withDecoding frame room restart w, chosen⟩
  unfold State.deferUntilIdle
  dsimp only
  split
  · exact waiting.resolveDeferred
  · exact waiting.truncate c
  · exact waiting.truncate c

theorem State.LineInv.execDeadlineExpiry (h : s.LineInv) :
    LeadsTo (execDeadlineExpiry s) State.LineInv := by
  unfold Machine.execDeadlineExpiry
  split
  · have expired : State.LineInv { s with ranker := { s.ranker with timer := .expired } } := h
    refine .next ?_
    split
    · exact expired
    · exact expired.truncate _
  · exact .next h

/-! #### Construction and placement (R84, R95, R111 to R127) -/

theorem State.LineInv.execConstructSlot (h : s.LineInv) :
    LeadsTo (execConstructSlot s) State.LineInv := by
  unfold Machine.execConstructSlot
  split
  · obtain ⟨views, lists, ho⟩ := s.constructAt_footprint s.ranker.nextSlot
    have built : (s.constructAt s.ranker.nextSlot).Lined := State.Lined.table
      (s := { s with ranker := { s.ranker with views := views, lists := lists } }) h.lined ho
    refine .next ?_
    dsimp only
    split
    · exact State.Lined.arbitrate (State.Lined.beginPlacement built)
    · exact State.Lined.arbitrate built
  · exact .next h

/-- A candidate taken: skipped, granted, or the end of its Placer on an empty pool. -/
theorem State.Lined.placeCandidate (h : s.Lined) (d : Direction) (c : Candidate) :
    (s.placeCandidate d c).Lined := by
  rcases State.placeCandidate_cases s d c with ⟨he, -⟩ | ⟨k, r, tiles, he⟩ | ⟨u, t, he, -⟩
  · rw [he]
    exact (h.endPlacer d _).lined
  · rw [he]
    exact State.Lined.table (s := s.skippedAt d) h (State.onlyTable_skipCandidate s d c k r tiles)
  · rw [he]
    obtain ⟨more, rs, q, ho, waiting⟩ := State.grantCandidate_footprint s d c u t
    refine State.Lined.table ?_ ho
    have queued := h.join_grants fun e hmem => (waiting e hmem).1
    cases d
    · exact queued
    · exact queued

theorem State.Lined.placerStep (h : s.Lined) (d : Direction) (begun : Bool) :
    (s.placerStep d begun).LineInv := by
  unfold State.placerStep
  split
  · exact h.endPlacer d _
  · exact (h.placeCandidate d _).arbitrate
  · exact h.endPlacer d _
  · rename_i c _ _
    have placed := (h.placeCandidate d c).arbitrate
    split
    · unfold State.stopAfter
      split
      · exact placed.lined.endPlacer d _
      · exact placed
    · exact h.endPlacer d _

theorem State.LineInv.execPlaceCandidate (h : s.LineInv) (d : Direction) (begun : Bool) :
    LeadsTo (execPlaceCandidate d begun s) State.LineInv := by
  unfold Machine.execPlaceCandidate
  split
  · exact .next (h.lined.placerStep d begun)
  · exact .next h

end

end Sys2Proof.Machine

/-! ### The requests and the line (R164 to R170, R173, R178, R179) -/

namespace Sys2Proof.Machine

/-- The block leaves the line as a taking may have it, and the answers. -/
def KeepsLine (block : List Byte → State → Reply) : Prop :=
  ∀ b s, s.Lined → (block b s).state.Lined ∧ (block b s).state.link.answers = s.link.answers

theorem KeepsBeside.keepsLine {block : List Byte → State → Reply} (hb : KeepsBeside block) :
    KeepsLine block :=
  fun b s h => ⟨h.block hb b, congrArg (·.link.answers) (hb b s)⟩

theorem keepsLine_serviceOn : KeepsLine serviceOnBlock := fun _ _ h => ⟨h, rfl⟩

/-! #### The steps of the line -/

section
variable {s : State}

/-- A batch that goes on has room for its answer (R169). -/
theorem State.batchFrame_room {q : Request} {x : Frame × Option BatchProgress}
    (hb : s.batchFrame q = some x) : s.link.answers.length < Config.answerCapacity := by
  unfold State.batchFrame State.mayDecode at hb
  split at hb
  · rename_i hc
    exact of_decide_eq_true (Bool.and_eq_true_iff.mp hc).2
  · cases hb

/-- A byte received moves the receiver, has a frame accepted, or has the frame in reception discarded. -/
theorem State.receive_outcome (s : State) (b : Byte) :
    (∃ r, s.receive b = s.putRx r) ∨ (∃ f, s.receive b = s.acceptFrame f)
      ∨ ∃ a, s.receive b = s.discardFrame a := by
  unfold State.receive
  split
  · split
    · exact .inl ⟨_, rfl⟩
    · exact .inl ⟨s.link.rx, rfl⟩
  · split
    · exact .inl ⟨_, rfl⟩
    · split
      · exact .inl ⟨s.link.rx, rfl⟩
      · exact .inl ⟨_, rfl⟩
  · split
    · unfold State.receiveHeader
      split
      · split
        · exact .inr (.inr ⟨_, rfl⟩)
        · split <;> exact .inl ⟨_, rfl⟩
      · exact .inl ⟨_, rfl⟩
    · exact .inr (.inr ⟨_, rfl⟩)
  · split
    · unfold State.receiveBody
      split <;> exact .inl ⟨_, rfl⟩
    · exact .inr (.inr ⟨_, rfl⟩)
  · unfold State.receiveCrc
    split
    · exact .inl ⟨_, rfl⟩
    · split
      · exact .inr (.inl ⟨_, rfl⟩)
      · exact .inr (.inr ⟨_, rfl⟩)

theorem State.Lined.discardFrame (h : s.Lined) (a : DeviceAlert) : (s.discardFrame a).Lined :=
  State.Lined.alerting (s := s.putRx .hunt) h (State.onlyAlerts_latchDevice _ _ _)

/-- Once the message on TXD has left, nothing is SENDING. -/
theorem State.TxAgrees.leaveLine (h : s.TxAgrees) {t : Transmission} (sending : s.link.tx = some t) :
    allWaiting (s.leaveLine t).notices.grants (s.leaveLine t).notices.general := by
  obtain ⟨source, bytes⟩ := t
  unfold State.TxAgrees at h
  rw [sending] at h
  cases source
  · exact h.2
  · exact h.2
  · exact h.2

theorem State.leaveLine_link (t : Transmission) :
    (s.leaveLine t).link
      = { s.link with
          tx := none
          answers := if t.source = .answers then s.link.answers.tail else s.link.answers } := by
  obtain ⟨source, bytes⟩ := t
  cases source <;> rfl

theorem State.leaveLine_answers_le (t : Transmission) :
    (s.leaveLine t).link.answers.length ≤ s.link.answers.length := by
  rw [State.leaveLine_link]
  split
  · rw [List.length_tail]
    exact Nat.sub_le _ _
  · exact le_rfl

theorem State.leaveLine_general_le (t : Transmission) :
    (s.leaveLine t).notices.general.length ≤ s.notices.general.length := by
  obtain ⟨source, bytes⟩ := t
  cases source
  · exact le_rfl
  · exact le_rfl
  · show s.notices.general.tail.length ≤ _
    rw [List.length_tail]
    exact Nat.sub_le _ _

/-- Another answer stands behind one that is not the last of an accepted RESTART (R178). -/
theorem State.leaveLine_answers_ne_nil {t : Transmission} (answers : s.link.answers ≠ [])
    (queued : s.link.restart = .answerQueued) (sent : s.restartAnswerSent t = false) :
    (s.leaveLine t).link.answers ≠ [] := by
  rw [State.leaveLine_link]
  split
  · rename_i source
    intro last
    have one := congrArg List.length last
    rw [List.length_tail, List.length_nil] at one
    have some := List.length_pos_of_ne_nil answers
    rw [State.restartAnswerSent_iff.mpr ⟨queued, source, by omega⟩] at sent
    cases sent
  · exact answers

/-- A message leaves, and with the last answer of an accepted RESTART its reset may fall due. -/
theorem Link.Orderly.leaveLine (h : s.link.Orderly) (t : Transmission) {r : RestartPhase}
    (queued : r = .answerQueued → (s.leaveLine t).link.answers ≠ [])
    (restarting : r ≠ .none → s.link.restart ≠ .none) :
    Link.Orderly { (s.leaveLine t).link with restart := r } := by
  obtain ⟨answers, room, frame, -, idle⟩ := h
  have fewer := s.leaveLine_answers_le t
  obtain ⟨decoding, accepted⟩ : (s.leaveLine t).link.decoding = s.link.decoding
      ∧ (s.leaveLine t).link.accepted = s.link.accepted := by
    rw [State.leaveLine_link]
    exact ⟨rfl, rfl⟩
  refine ⟨fewer.trans answers, fun hw => fewer.trans_lt (room (decoding ▸ hw)), ?_, queued, fun hr => ?_⟩
  · show (s.leaveLine t).link.decoding ≠ .idle → (s.leaveLine t).link.accepted ≠ []
    rw [decoding, accepted]
    exact frame
  · show (s.leaveLine t).link.decoding = .idle ∧ (s.leaveLine t).link.accepted = []
    rw [decoding, accepted]
    exact idle (restarting hr)

/-- The message on TXD has left its source, and the line is free. -/
theorem State.Lined.left (h : s.Lined) {t : Transmission} (sending : s.link.tx = some t) {u : State}
    (notices : u.notices = (s.leaveLine t).notices) (free : u.link.tx = none) (orderly : u.link.Orderly) :
    u.Lined := by
  obtain ⟨agrees, general, -, -⟩ := h
  refine ⟨?_, ?_, fun _ => free, orderly⟩
  · unfold State.TxAgrees
    rw [free, notices]
    exact agrees.leaveLine sending
  · rw [notices]
    exact (State.leaveLine_general_le t).trans general

theorem State.deviceReset_lineInv (b1 b0 : PinLevel) : (s.deviceReset b1 b0).LineInv := by
  rw [State.deviceReset_eq]
  exact State.reset_lineInv

end

section
variable {s : State} (h : s.LineInv)
include h

/-! #### Requests -/

theorem State.LineInv.joinAnswer {f : Frame} (ht : s.TakesUp f) (r : Result) (d : AnswerData) :
    (s.joinAnswer f r d).LineInv := by
  obtain ⟨-, -, room, -⟩ := ht
  exact h.lined.joinAnswer room f r d

theorem State.LineInv.decodeFrame {f : Frame} (ht : s.TakesUp f) (len : Nat)
    (rule : State → Option Result) {block : List Byte → State → Reply} (hb : KeepsLine block) :
    (s.decodeFrame f len rule block).LineInv := by
  obtain ⟨-, -, room, -⟩ := id ht
  obtain ⟨lined, answers⟩ := hb f.body s h.lined
  unfold State.decodeFrame
  split
  · exact h.joinAnswer ht _ _
  · split
    · exact h.joinAnswer ht _ _
    · exact lined.joinAnswer (by rw [answers]; exact room) _ _ _

theorem State.LineInv.runRequest {block : List Byte → State → Reply} (hb : KeepsLine block)
    (q : Request) (len : Nat) (rule : State → Option Result) :
    LeadsTo (s.runRequest q len rule block) State.LineInv := by
  unfold State.runRequest
  split
  · exact .next h
  · rename_i f hf
    exact .next (h.decodeFrame (State.takesUp_of_takeUp s f _ hf).1 len rule hb)

theorem State.LineInv.execMonitorSetup : LeadsTo (execMonitorSetup s) State.LineInv := by
  unfold Machine.execMonitorSetup
  split
  · exact .next h
  · rename_i f hf
    exact .next (h.decodeFrame (State.takesUp_of_takeUp s f _ hf).1 13 anyState
      keepsBeside_monitorSetup.keepsLine)

theorem State.LineInv.execMonitorSetupBuffer : LeadsTo (execMonitorSetupBuffer s) State.LineInv := by
  unfold Machine.execMonitorSetupBuffer
  split
  · exact .next h
  · rename_i f hf
    exact .next (h.decodeFrame (State.takesUp_of_takeUp s f _ hf).1 13 anyState
      keepsBeside_bufferSetup.keepsLine)

theorem State.LineInv.execUnknownKindRequest : LeadsTo (execUnknownKindRequest s) State.LineInv := by
  unfold Machine.execUnknownKindRequest
  split
  · exact .next h
  · rename_i f hf
    exact .next (h.joinAnswer (State.takesUp_of_takeUp s f _ hf).1 _ _)

theorem State.LineInv.execServiceOff : LeadsTo (execServiceOff s) State.LineInv := by
  unfold Machine.execServiceOff
  split
  · exact .next h
  · rename_i f hf
    have taken := (State.takesUp_of_takeUp s f _ hf).1
    refine .next ?_
    unfold State.decodeServiceOff
    split
    · exact h.joinAnswer taken _ _
    · split
      · exact h.joinAnswer taken _ _
      · exact h.deferUntilIdle taken _ _

theorem State.LineInv.execFrameMark : LeadsTo (execFrameMark s) State.LineInv := by
  unfold Machine.execFrameMark
  split
  · exact .next h
  · rename_i f hf
    have taken := (State.takesUp_of_takeUp s f _ hf).1
    refine .next ?_
    unfold State.decodeFrameMark
    split
    · exact h.joinAnswer taken _ _
    · split
      · exact h.joinAnswer taken _ _
      · split
        · exact h.joinAnswer taken _ _
        · exact h.deferUntilIdle taken _ _

/-- An accepted RESTART leaves its answer to be sent, no frame and no decoding (R178). -/
theorem State.LineInv.awaitRestart (restart : s.link.restart = .none) (idle : s.link.decoding = .idle)
    (answers : s.link.answers ≠ []) : s.awaitRestart.LineInv := by
  obtain ⟨agrees, chosen, capacity, general, room, -, -, -, -⟩ := h
  have undue : s.link.restart ≠ .resetDue := by
    rw [restart]
    exact RestartPhase.noConfusion
  exact ⟨agrees, fun free held _ => chosen free held undue, capacity, general, room,
    fun hd => absurd idle hd, fun _ => answers, fun hd => RestartPhase.noConfusion hd,
    fun _ => ⟨idle, rfl⟩⟩

theorem State.LineInv.execRestart : LeadsTo (execRestart s) State.LineInv := by
  unfold Machine.execRestart
  split
  · exact .next h
  · rename_i f hf
    have taken := (State.takesUp_of_takeUp s f _ hf).1
    refine .next ?_
    unfold State.decodeRestart
    split
    · exact h.joinAnswer taken _ _
    · split
      · exact h.joinAnswer taken _ _
      · obtain ⟨-, restart, -⟩ := id taken
        refine (h.joinAnswer taken .ok .empty).awaitRestart ?_ ?_ ?_
        · rw [State.joinAnswer_link_restart]
          exact restart
        · rw [State.joinAnswer_link_decoding]
        · rw [State.joinAnswer_link_answers]
          exact List.append_ne_nil_of_right_ne_nil _ (List.cons_ne_nil _ _)

/-! #### Batches (R23, R169) -/

/-- A batch is answered, or stands between two of its entries. -/
theorem State.LineInv.continueBatch {q : Request} {x : Frame × Option BatchProgress}
    (hb : s.batchFrame q = some x) {apply : List Byte → State → EntryTaken}
    (ha : ∀ (e : List Byte) (s : State), s.OnlyTable (apply e s).state) (f : Frame) (size : Nat)
    (p : BatchProgress) (n : Nat) : (s.continueBatch f size apply p n).LineInv := by
  obtain ⟨frame, restart⟩ := State.batchFrame_some hb
  have room := State.batchFrame_room hb
  have taken := State.takeEntries_keeps State.Lined apply (fun _ h => h.arbitrate.lined)
    (fun es s h => h.alerting (State.onlyAlerts_takeEvents s es)) (fun e s h => h.table (ha e s))
    (((batchEntries size f.body).drop p.taken).take n) p s h.lined
  obtain ⟨-, -, -, -, -, -, -, -, -, -, -, link⟩ := State.takeEntries_footprint apply ha
    (((batchEntries size f.body).drop p.taken).take n) p s
  have settled {x : State} (es : List Event) (hx : x.Lined) : (x.takeEvents es).arbitrate.LineInv :=
    (hx.alerting (State.onlyAlerts_takeEvents x es)).arbitrate
  unfold State.continueBatch
  dsimp only
  split
  · exact settled _ (taken.joinAnswer (by rw [link]; exact room) f _ _).lined
  · exact settled _ (taken.withDecoding (by rw [link]; exact frame) (by rw [link]; exact room)
      (by rw [link]; exact restart) _)

theorem State.LineInv.runBatch {apply : List Byte → State → EntryTaken}
    (ha : ∀ (e : List Byte) (s : State), s.OnlyTable (apply e s).state) (q : Request)
    (codesOk : List Byte → Bool) (n : Nat) :
    LeadsTo (s.runBatch q codesOk apply n) State.LineInv := by
  unfold State.runBatch
  split
  · exact .next h
  · rename_i hb
    exact .next (h.continueBatch hb ha _ _ _ _)
  · rename_i hb
    have room := State.batchFrame_room hb
    split
    · exact .next (h.lined.joinAnswer room _ _ _)
    · split
      · exact .next (h.continueBatch hb ha _ _ _ _)
      · exact .next (h.lined.joinAnswer room _ _ _)

/-! #### Reception (R164 to R168) -/

/-- A frame is accepted behind those there are, and no RESTART is awaited (R167, R178). -/
theorem State.LineInv.receive (restart : s.link.restart = .none) (b : Byte) : (s.receive b).Lined := by
  rcases s.receive_outcome b with ⟨r, he⟩ | ⟨f, he⟩ | ⟨a, he⟩
  · rw [he]
    exact h.lined
  · rw [he]
    obtain ⟨agrees, general, due, answers, room, -, queued, -⟩ := h.lined
    exact ⟨agrees, general, due, answers, room,
      fun _ => List.append_ne_nil_of_right_ne_nil _ (List.cons_ne_nil _ _), queued,
      fun hr => absurd restart hr⟩
  · rw [he]
    exact h.lined.discardFrame a

theorem State.LineInv.execReceiveByte (b : Byte) : LeadsTo (execReceiveByte b s) State.LineInv := by
  refine .next ?_
  split
  · rename_i hears
    exact (h.receive (beq_iff_eq.mp (Bool.and_eq_true_iff.mp hears).2) b).arbitrate
  · exact h

theorem State.LineInv.execFramingError : LeadsTo (execFramingError s) State.LineInv := by
  unfold Machine.execFramingError
  split
  · refine .next (State.Lined.arbitrate ?_)
    split
    · exact h.lined.discardFrame _
    · exact h.lined
  · exact .next h

theorem State.LineInv.execFrameIdleTimeout : LeadsTo (execFrameIdleTimeout s) State.LineInv := by
  unfold Machine.execFrameIdleTimeout
  split
  · exact .next h
  · refine .next ?_
    split
    · exact (h.lined.discardFrame _).arbitrate
    · exact h

/-! #### MESSAGE_SENT (R133, R173, R178) -/

theorem State.LineInv.execMessageSent : LeadsTo (execMessageSent s) State.LineInv := by
  cases hx : s.link.tx with
  | none =>
    rw [execMessageSent_of_free hx]
    exact .next h
  | some t =>
    have free : (s.leaveLine t).link.tx = none := by rw [State.leaveLine_link]
    obtain ⟨-, -, -, orderly⟩ := h.lined
    obtain ⟨-, -, -, queued, -⟩ := id orderly
    cases sent : s.restartAnswerSent t with
    | true =>
      obtain ⟨phase, -⟩ := State.restartAnswerSent_iff.mp sent
      have restarting : s.link.restart ≠ .none := by
        rw [phase]
        exact RestartPhase.noConfusion
      rw [execMessageSent_of_restarting hx sent]
      exact .next ((State.lineInv_iff _).mpr
        ⟨h.lined.left hx rfl free (orderly.leaveLine t RestartPhase.noConfusion fun _ => restarting),
          fun _ _ due => absurd rfl due⟩)
    | false =>
      have phase : (s.leaveLine t).link.restart = s.link.restart := by rw [State.leaveLine_link]
      have left : (s.leaveLine t).link.Orderly := orderly.leaveLine t
        (fun hq => State.leaveLine_answers_ne_nil (queued (phase ▸ hq)) (phase ▸ hq) sent)
        (fun hr => phase ▸ hr)
      rw [execMessageSent_of_sending hx sent]
      exact .next (h.lined.left hx rfl free left).arbitrate

/-! #### The device resets (R178, R179) -/

/-- Held in reset nothing is sent and nothing is decoded (R179; log 13). -/
theorem State.LineInv.holdInReset : s.holdInReset.LineInv := by
  obtain ⟨-, -, answers, general, -⟩ := h
  have waiting : allWaiting s.holdInReset.notices.grants s.holdInReset.notices.general :=
    ⟨List.forall_mem_map.mpr fun _ _ => rfl, List.forall_mem_map.mpr fun _ _ => rfl⟩
  exact ⟨waiting, fun _ held => Bool.noConfusion held, answers, (List.length_map _).trans_le general,
    Bool.noConfusion, fun hd => absurd rfl hd, RestartPhase.noConfusion, RestartPhase.noConfusion,
    fun hr => absurd rfl hr⟩

/-! #### Every command -/

/-- Every command keeps the line in agreement with its sources. -/
theorem State.LineInv.exec (c : Instr) : LeadsTo (exec c s) State.LineInv := by
  have request {block : List Byte → State → Reply} (hb : KeepsBeside block) (k : Request) (len : Nat)
      (rule : State → Option Result) : LeadsTo (s.runRequest k len rule block) State.LineInv :=
    h.runRequest hb.keepsLine k len rule
  cases c with
  | receiveByte b => exact h.execReceiveByte b
  | framingError => exact h.execFramingError
  | frameIdleTimeout => exact h.execFrameIdleTimeout
  | unknownKindRequest => exact h.execUnknownKindRequest
  | status => exact request (fun _ _ => rfl) _ _ _
  | restart => exact h.execRestart
  | serviceOn => exact h.runRequest keepsLine_serviceOn _ _ _
  | serviceOff => exact h.execServiceOff
  | alertClear => exact request keepsBeside_alertClear _ _ _
  | alertMask => exact request keepsBeside_alertMask _ _ _
  | rateTable => exact request keepsBeside_rateTable _ _ _
  | trackSetup => exact request keepsBeside_trackSetup _ _ _
  | classProfile => exact request keepsBeside_classProfile _ _ _
  | energyTable => exact request keepsBeside_energyTable _ _ _
  | passSetup => exact request keepsBeside_passSetup _ _ _
  | admission => exact request keepsBeside_admission _ _ _
  | release => exact request (keepsBeside_withNamed fun _ _ _ => rfl) _ _ _
  | suspend => exact request (keepsBeside_withNamed suspendBlock_besideBlocks) _ _ _
  | resume => exact request (keepsBeside_withNamed resumeBlock_besideBlocks) _ _ _
  | linkUpdate =>
    exact request (fun b t => keepsBeside_withNamed (linkUpdateFields_besideBlocks b) b t) _ _ _
  | subscriberRead => exact request keepsBeside_subscriberRead _ _ _
  | frameMark => exact h.execFrameMark
  | qualityBatch n => exact h.runBatch State.onlyTable_qualityEntry _ _ n
  | queueBatch n => exact h.runBatch State.onlyTable_queueEntry _ _ n
  | outcomeBatch n => exact h.runBatch State.onlyTable_outcomeEntry _ _ n
  | energyReport => exact request (fun _ _ => rfl) _ _ _
  | monitorSetup => exact h.execMonitorSetup
  | monitorSetupBuffer => exact h.execMonitorSetupBuffer
  | counterRead => exact request keepsBeside_counterRead _ _ _
  | captureRead => exact request keepsBeside_captureRead _ _ _
  | traceRead => exact request (fun _ _ => rfl) _ _ _
  | traceResume => exact request (fun _ _ => rfl) _ _ _
  | messageSent => exact h.execMessageSent
  | powerOn b1 b0 =>
    refine .next ?_
    split
    · exact h
    · exact State.deviceReset_lineInv b1 b0
  | resetLineAssert =>
    refine .next ?_
    split
    · exact h
    · exact h.holdInReset
  | resetLineRelease b1 b0 =>
    refine .next ?_
    split
    · exact State.deviceReset_lineInv b1 b0
    · exact h
  | restartReset b1 b0 =>
    refine .next ?_
    split
    · exact State.deviceReset_lineInv b1 b0
    · exact h
  | constructSlot => exact h.execConstructSlot
  | placeCandidate d begun => exact h.execPlaceCandidate d begun
  | deadlineExpiry => exact h.execDeadlineExpiry
  | lineReturnToIdle => exact .next h

end

/-- Settles O57: within a taking the line agrees with its sources, and the arbiter's choice that ends every
taking leaves nothing offered to a free line. -/
theorem lineInvariantKept : Obligations.LineInvariantKept := by
  unfold Obligations.LineInvariantKept step
  intro s t h ht
  cases hp : s.pending with
  | nil =>
    rw [hp] at ht
    cases ht
    exact h
  | cons c cs =>
    rw [hp] at ht
    exact State.LineInv.exec (s := s.withPending cs) h c t ht

end Sys2Proof.Machine

/-! ### Whether an event qualifies (R147) -/

namespace Sys2Proof.Machine

theorem DirFilter.admits_iff (f : DirFilter) (d : Option Direction) :
    f.admits d = true
      ↔ f = .both ∨ (f = .dl ∧ d = some .dl) ∨ (f = .ul ∧ d = some .ul) ∨ d = none := by
  cases d with
  | none => simp [DirFilter.admits]
  | some d => cases d <;> cases f <;> simp [DirFilter.admits]

theorem classAdmitted_iff (mask : BitVec 8) (who : Option Subject) :
    classAdmitted mask who = true ↔ ∀ w, who = some w → mask.getLsbD w.cls.val = true := by
  cases who <;> simp [classAdmitted]

theorem Handle.eq_iff (a b : Handle) : a = b ↔ a.slot = b.slot ∧ a.gen = b.gen := by
  cases a
  cases b
  rw [Handle.mk.injEq]

/-- A present subscriber filter asks for an event that names the same slot and generation. -/
theorem subjectAdmitted_iff (filter : Option Handle) (who : Option Subject) :
    subjectAdmitted filter who = true
      ↔ ∀ h, filter = some h → ∃ w, who = some w ∧ w.handle.slot = h.slot ∧ w.handle.gen = h.gen := by
  cases filter with
  | none => simp [subjectAdmitted]
  | some h =>
    cases who with
    | none => simp [subjectAdmitted]
    | some w => simpa [subjectAdmitted] using Handle.eq_iff w.handle h

/-- Settles O43: the four tests of R147, none of which reads a field that an overflow or an enable changes. -/
theorem eventQualifies : Obligations.EventQualifies := by
  unfold Obligations.EventQualifies
  intro m e
  refine ⟨?_, fun on armed ran v acts count => rfl⟩
  unfold Monitor.qualifies
  rw [Bool.and_eq_true, Bool.and_eq_true, Bool.and_eq_true, beq_iff_eq, DirFilter.admits_iff,
    classAdmitted_iff, subjectAdmitted_iff, and_assoc, and_assoc]

end Sys2Proof.Machine

/-! ### MONITOR_SETUP (R158, R159) -/

namespace Sys2Proof.Machine

/-! #### What the body reads as -/

theorem num4_lt (b : List Byte) (i : Nat) : num4 b i < 2 ^ 32 := by
  have := num2_le b i
  have := num2_le b (i + 2)
  unfold num4
  omega

/-- The kind at a place among the thirteen is the one of that code. -/
theorem eventKindOf_eq_some_iff {n : Nat} {k : EventKind} : eventKindOf n = some k ↔ k.code = n := by
  constructor
  · intro h
    have codes : EventKind.all.map EventKind.code = List.range 13 := rfl
    have place : (EventKind.all.map EventKind.code)[n]? = some k.code := by
      rw [List.getElem?_map, show EventKind.all[n]? = some k from h]
      rfl
    rw [codes] at place
    obtain ⟨hn, code⟩ := List.getElem?_eq_some_iff.mp place
    rw [← code, List.getElem_range]
  · rintro rfl
    cases k <;> rfl

theorem EventKind.code_le (k : EventKind) : k.code ≤ 12 := by
  cases k <;> decide

theorem exists_eventKindOf {n : Nat} (h : n ≤ 12) : ∃ k, eventKindOf n = some k :=
  ⟨_, List.getElem?_eq_getElem (show n < EventKind.all.length from Nat.lt_succ_of_le h)⟩

theorem dirFilterOf_eq_some_iff {n : Nat} {f : DirFilter} : dirFilterOf n = some f ↔ f.code = n := by
  constructor
  · unfold dirFilterOf
    intro h
    split_ifs at h <;> cases h <;> simp [DirFilter.code, *]
  · rintro rfl
    cases f <;> rfl

theorem DirFilter.code_le (f : DirFilter) : f.code ≤ 2 := by
  cases f <;> decide

theorem exists_dirFilterOf {n : Nat} (h : n ≤ 2) : ∃ f, dirFilterOf n = some f := by
  unfold dirFilterOf
  split_ifs
  · exact ⟨_, rfl⟩
  · exact ⟨_, rfl⟩
  · exact ⟨_, rfl⟩
  · omega

theorem actionsOf_eq_some_iff {n : Nat} {a : Actions} :
    actionsOf n = some a ↔ n < 8 ∧ a = ⟨n.testBit 0, n.testBit 1, n.testBit 2⟩ := by
  unfold actionsOf
  split_ifs with h
  · simp [h, eq_comm]
  · simp [h]

theorem policyOf_eq_some_iff {n : Nat} {p : Policy} :
    policyOf n = some p ↔ n ≤ 1 ∧ p = if n = 0 then .stop else .wrap := by
  unfold policyOf
  split_ifs with h0 h1
  · simp [h0, eq_comm]
  · simp [h1, eq_comm]
  · simp
    omega

/-- What R158 asks of the settings in the body of a MONITOR_SETUP. -/
def MonitorOk (b : List Byte) : Prop :=
  num1 b 1 ≤ 1 ∧ num1 b 2 ≤ 12 ∧ num1 b 3 ≤ 2 ∧ num1 b 5 ≤ 1
    ∧ (num1 b 5 = 1 → (handleAtOffset b 6).slot ≤ 95) ∧ num4 b 8 ≠ 0 ∧ num1 b 12 < 8

/-- The monitor has the settings of the body, its count loaded with 2^32 − V and its flags clear (R158). -/
structure MonitorReads (b : List Byte) (m : Monitor) : Prop where
  enable : m.enable = true ↔ num1 b 1 = 1
  kind : m.kind.code = num1 b 2
  filter : m.filter.code = num1 b 3
  classMask : m.classMask.toNat = num1 b 4
  who : m.who = if num1 b 5 = 1 then some (handleAtOffset b 6) else none
  v : m.v.toNat = num4 b 8
  actions : m.actions
    = ⟨(num1 b 12).testBit 0, (num1 b 12).testBit 1, (num1 b 12).testBit 2⟩
  count : m.count.toNat = 2 ^ 32 - num4 b 8
  overflow : m.overflow = false
  armed : m.armed = false

/-- The count loaded for V is 2^32 − V without wrapping round, V being neither 0 nor 2^32 (R146). -/
theorem loadedCount_toNat {n : Nat} (hn : n ≠ 0) (hlt : n < 2 ^ 32) :
    (loadedCount (BitVec.ofNat 32 n)).toNat = 2 ^ 32 - n := by
  rw [loadedCount, BitVec.toNat_sub, BitVec.toNat_ofNat, BitVec.toNat_ofNat, Nat.mod_eq_of_lt hlt]
  omega

/-- A body read as the setup of a monitor passes R158's checks, and gives its settings. -/
theorem parseMonitor_reads {b : List Byte} {i : Fin 4} {m : Monitor}
    (h : parseMonitor b = some (i, m)) : i.val = num1 b 0 ∧ MonitorOk b ∧ MonitorReads b m := by
  unfold parseMonitor at h
  split at h
  · split at h
    · rename_i on k f who acts hon hk hf hwho hacts
      obtain ⟨hflag, hon⟩ := flagOf_eq_some_iff.mp hon
      have hk := eventKindOf_eq_some_iff.mp hk
      have hf := dirFilterOf_eq_some_iff.mp hf
      obtain ⟨⟨hpresent, hslot⟩, hwho⟩ := anchorField_eq_some_iff.mp hwho
      obtain ⟨hbits, hacts⟩ := actionsOf_eq_some_iff.mp hacts
      split at h
      · cases h
      · rename_i hv
        cases h
        exact ⟨rfl, ⟨hflag, hk ▸ k.code_le, hf ▸ f.code_le, hpresent, hslot, hv, hbits⟩,
          ⟨hon ▸ decide_eq_true_iff, hk, hf, rfl, hwho, Nat.mod_eq_of_lt (num4_lt b 8), hacts,
            loadedCount_toNat hv (num4_lt b 8), rfl, rfl⟩⟩
    · cases h
  · cases h

/-- A body that targets a monitor and passes R158's checks is read. -/
theorem exists_parseMonitor {b : List Byte} (ht : num1 b 0 < 4) (ok : MonitorOk b) :
    ∃ m, parseMonitor b = some (⟨num1 b 0, ht⟩, m) := by
  obtain ⟨hflag, hkind, hfilter, hpresent, hslot, hv, hbits⟩ := ok
  obtain ⟨k, hk⟩ := exists_eventKindOf hkind
  obtain ⟨f, hf⟩ := exists_dirFilterOf hfilter
  unfold parseMonitor
  rw [dif_pos ht, flagOf_eq_some_iff.mpr ⟨hflag, rfl⟩, hk, hf, subjectField,
    anchorField_eq_some_iff.mpr ⟨⟨hpresent, hslot⟩, rfl⟩, actionsOf_eq_some_iff.mpr ⟨hbits, rfl⟩]
  dsimp only
  rw [if_neg hv]
  exact ⟨_, rfl⟩

theorem parseMonitor_eq_none {b : List Byte} (h : num1 b 0 < 4 → ¬MonitorOk b) :
    parseMonitor b = none := by
  refine Option.eq_none_iff_forall_ne_some.mpr fun ⟨i, m⟩ hm => ?_
  obtain ⟨hi, ok, -⟩ := parseMonitor_reads hm
  exact h (hi ▸ i.isLt) ok

/-- The buffer's settings as the body carries them (R159). -/
theorem parseBuffer_eq_some {b : List Byte} (hp : num1 b 1 ≤ 1) (ht : 1 ≤ num1 b 2 ∧ num1 b 2 ≤ 16) :
    parseBuffer b = some (if num1 b 1 = 0 then .stop else .wrap, num1 b 2) := by
  unfold parseBuffer
  rw [policyOf_eq_some_iff.mpr ⟨hp, rfl⟩]
  exact if_pos ht

theorem parseBuffer_eq_none {b : List Byte} (h : ¬(num1 b 1 ≤ 1 ∧ 1 ≤ num1 b 2 ∧ num1 b 2 ≤ 16)) :
    parseBuffer b = none := by
  unfold parseBuffer
  split
  · rename_i p hp
    obtain ⟨hle, -⟩ := policyOf_eq_some_iff.mp hp
    exact if_neg fun ht => h ⟨hle, ht⟩
  · rfl

/-! #### The two commands of the request -/

section
variable {s : State} {f : Frame}

/-- A MONITOR_SETUP of the right length is the buffer's when its target is 4 (R159, log 25). -/
theorem targetsBuffer_eq (hk : f.kind = 0x20#8) (hl : f.body.length = 13) :
    targetsBuffer f = decide (num1 f.body 0 = 4) := by
  unfold targetsBuffer
  rw [hk, hl]
  rfl

variable (ht : s.TakesUp f) (hk : f.kind = 0x20#8) (hl : f.body.length = 13)
include ht hk hl

theorem exec_monitorSetup_eq (target : num1 f.body 0 ≠ 4) :
    exec .monitorSetup s
      = .next ((monitorSetupBlock f.body s).state.joinAnswer f (monitorSetupBlock f.body s).result
          (monitorSetupBlock f.body s).data) := by
  show execMonitorSetup s = _
  unfold execMonitorSetup
  rw [State.takeUp_of_takesUp s f _ ht (by simp [targetsBuffer_eq hk hl, target, hk, Request.code])]
  dsimp only
  rw [State.decodeFrame_eq s f 13 anyState _ hl rfl]

theorem exec_monitorSetupBuffer_eq (target : num1 f.body 0 = 4) :
    exec .monitorSetupBuffer s
      = .next ((bufferSetupBlock f.body s).state.joinAnswer f (bufferSetupBlock f.body s).result
          (bufferSetupBlock f.body s).data) := by
  show execMonitorSetupBuffer s = _
  unfold execMonitorSetupBuffer
  rw [State.takeUp_of_takesUp s f _ ht (by simp [targetsBuffer_eq hk hl, target])]
  dsimp only
  rw [State.decodeFrame_eq s f 13 anyState _ hl rfl]

theorem State.monitorSetup_refuses (target : num1 f.body 0 ≠ 4)
    (bad : num1 f.body 0 < 4 → ¬MonitorOk f.body) : s.Refuses .monitorSetup f .badField := by
  refine State.refuses_of_exec s _ f _ ?_
  rw [exec_monitorSetup_eq ht hk hl target]
  unfold monitorSetupBlock
  rw [parseMonitor_eq_none bad]
  rfl

theorem State.monitorSetup_answers {i : Fin 4} {m : Monitor} (parsed : parseMonitor f.body = some (i, m))
    (target : num1 f.body 0 ≠ 4) : s.AnswersWith .monitorSetup f .ok .empty (s.putMonitor i m) := by
  refine State.answersWith_of_exec s _ _ f _ _ ?_ rfl rfl rfl
  rw [exec_monitorSetup_eq ht hk hl target]
  unfold monitorSetupBlock
  rw [parsed]
  rfl

end

/-- The monitors read after one is replaced. -/
theorem State.putMonitor_getElem (s : State) (i j : Fin 4) (m : Monitor) :
    (s.putMonitor i m).monitor.monitors[j] = if j.val = i.val then m else s.monitor.monitors[j] := by
  rw [State.putMonitor_monitor, Fin.getElem_fin, Vector.getElem_set]
  simp only [eq_comm, Fin.getElem_fin]

/-- Settles O41: by the target; a monitor's setup is read by R158, the buffer's by R159. -/
theorem monitorSetupLoads : Obligations.MonitorSetupLoads := by
  unfold Obligations.MonitorSetupLoads
  intro s f ht hk hl v after who ok okBuffer
  refine ⟨fun unknown => ?_, fun target bad => ?_, fun target good => ?_, fun target bad => ?_,
    fun target good => ?_⟩
  · exact State.monitorSetup_refuses ht hk hl (Nat.ne_of_gt unknown) fun hlt =>
      absurd hlt (Nat.lt_asymm unknown)
  · exact State.monitorSetup_refuses ht hk hl (Nat.ne_of_lt target) fun _ => bad
  · obtain ⟨m, hm⟩ := exists_parseMonitor target good
    obtain ⟨-, -, reads⟩ := parseMonitor_reads hm
    refine ⟨s.putMonitor ⟨num1 f.body 0, target⟩ m, m,
      State.monitorSetup_answers ht hk hl hm (Nat.ne_of_lt target), rfl,
      fun i => State.putMonitor_getElem s _ i m, reads.enable, reads.kind, reads.filter, reads.classMask,
      reads.who, reads.v, reads.actions, reads.count, reads.overflow, reads.armed⟩
  · refine State.refuses_of_exec s _ f _ ?_
    rw [exec_monitorSetupBuffer_eq ht hk hl target]
    unfold bufferSetupBlock
    rw [parseBuffer_eq_none bad]
    rfl
  · refine State.answersWith_of_exec s _ _ f _ _ ?_ rfl rfl rfl
    obtain ⟨hp, hthreshold⟩ := good
    rw [exec_monitorSetupBuffer_eq ht hk hl target]
    unfold bufferSetupBlock
    rw [parseBuffer_eq_some hp hthreshold]
    rfl

end Sys2Proof.Machine

/-! ### COUNTER_READ, CAPTURE_READ, TRACE_READ and TRACE_RESUME (R157, R160, R161) -/

namespace Sys2Proof.Machine

/-- The records that a CAPTURE_READ takes, oldest first, and those it leaves (R161). -/
theorem captureReadBlock_ok {b : List Byte} (h : 1 ≤ num1 b 0 ∧ num1 b 0 ≤ 16) (s : State) :
    captureReadBlock b s
      = ⟨s.putRecords (s.monitor.records.drop (num1 b 0)), .ok,
          .captures (s.monitor.records.drop (num1 b 0)).length (s.monitor.records.take (num1 b 0))⟩ :=
  if_pos h

theorem captureReadBlock_bad {b : List Byte} (h : ¬(1 ≤ num1 b 0 ∧ num1 b 0 ≤ 16)) (s : State) :
    captureReadBlock b s = s.refuse .badField :=
  if_neg h

/-- A clear option that names neither of its two values is refused (log 19). -/
theorem counterReadBlock_bad {b : List Byte} (h : flagOf (num1 b 0) = none) (s : State) :
    counterReadBlock b s = s.refuse .badField := by
  unfold counterReadBlock
  rw [h]

/-- The counters are answered as they stood before the overflow flags are cleared (R160). -/
theorem counterReadBlock_ok {b : List Byte} {clear : Bool} (h : flagOf (num1 b 0) = some clear) (s : State) :
    counterReadBlock b s = ⟨if clear then s.clearOverflows else s, .ok, .counters s.counters⟩ := by
  unfold counterReadBlock
  rw [h]

/-- Settles O42: each request of fixed length answers what its block makes of it. -/
theorem monitorReadsAnswer : Obligations.MonitorReadsAnswer := by
  unfold Obligations.MonitorReadsAnswer
  intro s f ht
  refine ⟨fun hk hl => ?_, fun hk hl => ?_, fun hk hb => ?_, fun hk hb => ?_⟩
  · have he : exec .counterRead s = s.runRequest .counterRead 1 anyState counterReadBlock := rfl
    exact ⟨fun bad => State.runRequest_refuses s f _ _ _ _ _ _ he ht hk hl rfl
        (counterReadBlock_bad (flagOf_eq_none_iff.mpr bad) s),
      fun keep => State.runRequest_answers s f _ _ _ _ _ _ _ _ he ht hk hl rfl
        (counterReadBlock_ok (flagOf_eq_false_iff.mpr keep) s) rfl rfl rfl,
      fun clear => State.runRequest_answers s f _ _ _ _ _ _ _ _ he ht hk hl rfl
        (counterReadBlock_ok (flagOf_eq_true_iff.mpr clear) s) rfl rfl rfl⟩
  · have he : exec .captureRead s = s.runRequest .captureRead 1 anyState captureReadBlock := rfl
    refine ⟨fun bad => ?_, fun lower upper => ?_⟩
    · exact State.runRequest_refuses s f _ _ _ _ _ _ he ht hk hl rfl (captureReadBlock_bad (by omega) s)
    · exact ⟨_, _, (List.take_append_drop _ _).symm, List.length_take,
        State.runRequest_answers s f _ _ _ _ _ _ _ _ he ht hk hl rfl
          (captureReadBlock_ok ⟨lower, upper⟩ s) rfl rfl rfl⟩
  · exact State.runRequest_answers s f _ .traceRead 0 anyState traceReadBlock _ _ _ rfl ht hk
      (List.length_eq_zero_iff.mpr hb) rfl rfl rfl rfl rfl
  · exact State.runRequest_answers s f _ .traceResume 0 anyState traceResumeBlock _ _ _ rfl ht hk
      (List.length_eq_zero_iff.mpr hb) rfl rfl rfl rfl rfl

end Sys2Proof.Machine

/-! ### One event and one monitor (R147 to R149, R151) -/

namespace Sys2Proof.Machine

section
variable (m : Monitor) (e : Event)

/-- The monitor counts the event (R148). -/
def Monitor.counts : Bool := m.enable && m.qualifies e

/-- The event makes the monitor overflow (R148). -/
def Monitor.overflows : Bool := m.counts e && m.count == 0xFFFFFFFF#32

/-- The event is one that the monitor's pending capture waits for (R151). -/
def Monitor.captures : Bool := m.armed && m.qualifies e

/-- The monitor's overflow on the event asks for the alert (R149). -/
def Monitor.alerts : Bool := m.overflows e && m.actions.alert

/-- The monitor's overflow on the event asks for a freeze (R149). -/
def Monitor.freezes : Bool := m.overflows e && m.actions.freeze

/-- The monitor after the event is tried against its pending capture (R151). -/
def Monitor.captured : Monitor := { m with armed := m.armed && !m.qualifies e }

/-- The monitor after the event is counted (R148, R149). -/
def Monitor.counted : Monitor :=
  { m with
    count := if m.overflows e then loadedCount m.v else if m.counts e then m.count + 1#32 else m.count
    overflow := m.overflow || m.overflows e
    armed := m.armed || (m.overflows e && m.actions.capture) }

/-- The monitor after the event: the pending capture first, then the count (R152). -/
def Monitor.judged : Monitor := (m.captured e).counted e

variable {m e}

theorem Monitor.captured_of_captures (h : m.captures e = true) :
    m.captured e = { m with armed := false } := by
  unfold Monitor.captures at h
  rw [Bool.and_eq_true] at h
  obtain ⟨-, qualifies⟩ := h
  unfold Monitor.captured
  rw [qualifies, Bool.not_true, Bool.and_false]

theorem Monitor.captured_of_not_captures (h : m.captures e = false) : m.captured e = m := by
  have stands : (m.armed && !m.qualifies e) = m.armed := by
    unfold Monitor.captures at h
    cases armed : m.armed with
    | false => rfl
    | true =>
      rw [armed, Bool.true_and] at h
      rw [h]
      rfl
  unfold Monitor.captured
  rw [stands]

theorem Monitor.counted_of_overflows (h : m.overflows e = true) : m.counted e = m.overflowed := by
  unfold Monitor.counted Monitor.overflowed
  rw [h, if_pos rfl, Bool.or_true, Bool.true_and]

theorem Monitor.counted_of_not_overflows (h : m.overflows e = false) :
    m.counted e = { m with count := if m.counts e then m.count + 1#32 else m.count } := by
  unfold Monitor.counted
  rw [h, Bool.or_false, Bool.false_and, Bool.or_false, if_neg Bool.false_ne_true]

/-- A count overflows at its greatest value (R148). -/
theorem succ_eq_zero_iff (n : U32) : n + 1#32 = 0#32 ↔ n = 0xFFFFFFFF#32 := by
  bv_omega

end

/-! #### The capture buffer (R154, R155) -/

section
variable {s : State} {r : CaptureRecord}

theorem State.offerCapture_of_room (h : s.monitor.records.length < 16) :
    s.offerCapture r
      = if s.monitor.records.length + 1 = s.monitor.threshold then
          (s.putRecords (s.monitor.records ++ [r])).offerGeneral
            (.capture { held := s.monitor.threshold, frame := s.ranker.newest })
        else s.putRecords (s.monitor.records ++ [r]) :=
  if_pos h

theorem State.offerCapture_of_stop (h : 16 ≤ s.monitor.records.length) (hp : s.monitor.policy = .stop) :
    s.offerCapture r = s.latchDevice .captureFull s.ranker.newest := by
  unfold State.offerCapture
  rw [if_neg (Nat.not_lt.mpr h), hp]

theorem State.offerCapture_of_wrap (h : 16 ≤ s.monitor.records.length) (hp : s.monitor.policy = .wrap) :
    s.offerCapture r = s.putRecords (s.monitor.records.tail ++ [r]) := by
  unfold State.offerCapture
  rw [if_neg (Nat.not_lt.mpr h), hp]

end

/-! #### The state, with the monitors apart -/

/-- The state with its four monitors replaced. -/
def State.withMonitors (s : State) (v : Vector Monitor 4) : State :=
  { s with monitor := { s.monitor with monitors := v } }

section
variable (s : State) (v : Vector Monitor 4)

theorem State.offerGeneral_withMonitors (n : GeneralNotice) :
    (s.withMonitors v).offerGeneral n = (s.offerGeneral n).withMonitors v := by
  unfold State.offerGeneral
  rw [apply_ite (State.withMonitors · v)]
  rfl

theorem State.latchDevice_withMonitors (a : DeviceAlert) (frame : Option U16) :
    (s.withMonitors v).latchDevice a frame = (s.latchDevice a frame).withMonitors v := by
  unfold State.latchDevice
  rw [apply_ite (State.withMonitors · v), apply_ite (State.withMonitors · v),
    ← State.offerGeneral_withMonitors]
  rfl

/-- The capture buffer does not read the monitors (R154, R155). -/
theorem State.offerCapture_withMonitors (r : CaptureRecord) :
    (s.withMonitors v).offerCapture r = (s.offerCapture r).withMonitors v := by
  by_cases room : s.monitor.records.length < 16
  · rw [State.offerCapture_of_room room, State.offerCapture_of_room (s := s.withMonitors v) room,
      apply_ite (State.withMonitors · v), ← State.offerGeneral_withMonitors]
    rfl
  · have full := Nat.not_lt.mp room
    cases policy : s.monitor.policy with
    | stop =>
      rw [State.offerCapture_of_stop full policy,
        State.offerCapture_of_stop (s := s.withMonitors v) full policy, State.latchDevice_withMonitors]
      rfl
    | wrap =>
      rw [State.offerCapture_of_wrap full policy,
        State.offerCapture_of_wrap (s := s.withMonitors v) full policy]
      rfl

end

/-- What a record shows of the state, alerting and the Monitor Unit do not change (R153). -/
theorem State.OnlyAlerts.captureRecord {s x : State} (h : s.OnlyAlerts x) (i : Nat) (e : Event) :
    x.captureRecord i e = s.captureRecord i e := by
  obtain ⟨al, more, mo, rfl, -⟩ := h
  rfl

section
variable (x : State) (v : Vector Monitor 4) (e : Event) (i : Fin 4)

theorem State.takeCapture_withMonitors :
    (x.withMonitors v).takeCapture e i
      = State.withMonitors (if v[i].captures e then x.offerCapture (x.captureRecord i.val e) else x)
          (v.set i (v[i].captured e)) := by
  show (if v[i].captures e then
      State.offerCapture (x.withMonitors (v.set i { v[i] with armed := false }))
        (x.captureRecord i.val e)
    else x.withMonitors v) = _
  cases h : v[i].captures e with
  | true =>
    rw [if_pos rfl, if_pos rfl, State.offerCapture_withMonitors, Monitor.captured_of_captures h]
  | false =>
    rw [if_neg Bool.false_ne_true, if_neg Bool.false_ne_true, Monitor.captured_of_not_captures h]
    exact congrArg _ (Vector.set_getElem_self _).symm

theorem State.countEvent_withMonitors :
    (x.withMonitors v).countEvent e i
      = (State.withMonitors (if v[i].alerts e then x.latchDevice .monitorOverflow e.frame else x)
          (v.set i (v[i].counted e)), v[i].freezes e) := by
  show (if v[i].counts e then
      (if v[i].count + 1#32 = 0#32 then
        (if v[i].actions.alert then
            State.latchDevice (x.withMonitors (v.set i v[i].overflowed)) .monitorOverflow e.frame
          else x.withMonitors (v.set i v[i].overflowed), v[i].actions.freeze)
      else (x.withMonitors (v.set i { v[i] with count := v[i].count + 1#32 }), false))
    else (x.withMonitors v, false)) = _
  unfold Monitor.alerts Monitor.freezes
  cases ran : v[i].overflows e with
  | true =>
    have counts := ran
    rw [Monitor.overflows, Bool.and_eq_true, beq_iff_eq] at counts
    obtain ⟨counts, full⟩ := counts
    rw [if_pos counts, if_pos ((succ_eq_zero_iff _).mpr full), Monitor.counted_of_overflows ran,
      Bool.true_and, Bool.true_and, State.latchDevice_withMonitors]
    cases v[i].actions.alert <;> rfl
  | false =>
    rw [Monitor.counted_of_not_overflows ran, Bool.false_and, Bool.false_and,
      if_neg Bool.false_ne_true]
    cases counts : v[i].counts e with
    | true =>
      have room : ¬v[i].count + 1#32 = 0#32 := fun full => by
        rw [Monitor.overflows, counts, Bool.true_and, beq_eq_false_iff_ne] at ran
        exact ran ((succ_eq_zero_iff _).mp full)
      rw [if_pos rfl, if_neg room]
      rfl
    | false =>
      exact congrArg (fun w => (x.withMonitors w, false)) (Vector.set_getElem_self _).symm

end

/-! #### What the four monitors tell (R148, R149, R152) -/

section
variable (s : State) (e : Event)

/-- What monitor `i` of `s` makes of the event beside its own settings: the record of a pending capture, and
then the alert of an overflow (R149, R151, R152). -/
def State.tell (x : State) (i : Fin 4) : State :=
  let y := if s.monitor.monitors[i].captures e then x.offerCapture (s.captureRecord i.val e) else x
  if s.monitor.monitors[i].alerts e then y.latchDevice .monitorOverflow e.frame else y

/-- What the four monitors of `s` tell of the event, in ascending order (R152, log 11). -/
def State.told : State := monitorIndices.foldl (s.tell e) s

/-- The event freezes the Monitor Unit (R150). -/
def State.freezesOn : Bool := monitorIndices.any fun i => s.monitor.monitors[i].freezes e

variable {s e}

theorem State.OnlyAlerts.tell {x : State} (h : s.OnlyAlerts x) (i : Fin 4) :
    s.OnlyAlerts (s.tell e x i) := by
  unfold State.tell
  have captured : s.OnlyAlerts
      (if s.monitor.monitors[i].captures e then x.offerCapture (s.captureRecord i.val e) else x) := by
    split
    · exact h.trans (State.onlyAlerts_offerCapture _ _)
    · exact h
  dsimp only
  split
  · exact captured.trans (State.onlyAlerts_latchDevice _ _ _)
  · exact captured

/-- One monitor that stands as it was judges the event. -/
theorem judgeMonitor_withMonitors {x : State} (only : s.OnlyAlerts x) {v : Vector Monitor 4} {i : Fin 4}
    (hv : v[i] = s.monitor.monitors[i]) (b : Bool) :
    judgeMonitor e (x.withMonitors v, b) i
      = ((s.tell e x i).withMonitors (v.set i (s.monitor.monitors[i].judged e)),
          b || s.monitor.monitors[i].freezes e) := by
  have set : (v.set i (v[i].captured e))[i] = v[i].captured e := Vector.getElem_set_self _
  unfold judgeMonitor
  dsimp only
  rw [State.takeCapture_withMonitors, State.countEvent_withMonitors, set, Vector.set_set,
    only.captureRecord, hv]
  rfl

/-- Monitors that stand as they were judge the event in turn. -/
theorem foldl_judgeMonitor_withMonitors {is : List (Fin 4)} (nodup : is.Nodup) {x : State}
    (only : s.OnlyAlerts x) {v : Vector Monitor 4} (hv : ∀ i ∈ is, v[i] = s.monitor.monitors[i]) (b : Bool) :
    is.foldl (judgeMonitor e) (x.withMonitors v, b)
      = ((is.foldl (s.tell e) x).withMonitors
            (is.foldl (fun w (i : Fin 4) => w.set i (s.monitor.monitors[i].judged e)) v),
          b || is.any fun i => s.monitor.monitors[i].freezes e) := by
  induction is generalizing x v b with
  | nil => simp
  | cons i is ih =>
    obtain ⟨fresh, nodup⟩ := List.nodup_cons.mp nodup
    have stand (j : Fin 4) (hj : j ∈ is) :
        (v.set i (s.monitor.monitors[i].judged e))[j] = s.monitor.monitors[j] := by
      have ne : i.val ≠ j.val := fun h => fresh (Fin.ext h ▸ hj)
      rw [← hv j (List.mem_cons_of_mem _ hj)]
      exact Vector.getElem_set_ne _ _ ne
    rw [List.foldl_cons, judgeMonitor_withMonitors only (hv i List.mem_cons_self),
      ih nodup (only.tell i) stand,
      List.any_cons, Bool.or_assoc]
    rfl

/-- The four monitors judge the event, each as it stood (R152). -/
theorem foldl_judgeMonitor (s : State) (e : Event) :
    monitorIndices.foldl (judgeMonitor e) (s, false)
      = ((s.told e).withMonitors (s.monitor.monitors.map fun m => m.judged e), s.freezesOn e) := by
  have all :
      monitorIndices.foldl (fun w (i : Fin 4) => w.set i (s.monitor.monitors[i].judged e))
          s.monitor.monitors
        = s.monitor.monitors.map fun m => m.judged e := by
    refine Vector.ext fun k hk => ?_
    simp only [monitorIndices, List.foldl_cons, List.foldl_nil, Vector.getElem_set, Vector.getElem_map]
    interval_cases k <;> rfl
  refine (foldl_judgeMonitor_withMonitors (s := s) (x := s) (by decide) (.refl s) (fun _ _ => rfl)
    false).trans ?_
  rw [all]
  rfl

end

end Sys2Proof.Machine

/-! ### The notices and alerts of one event (R142, R149, R155) -/

namespace Sys2Proof.Machine

/-- The notice of MONITOR_OVERFLOW with the frame of an event (R149). -/
def overflowNotice (frame : Option U16) : GeneralNotice :=
  .alert { kind := .device .monitorOverflow, handle := none, dir := none, frame := frame }

/-- The notice is one of MONITOR_OVERFLOW. -/
def GeneralNotice.ofOverflow : GeneralNotice → Bool
  | .alert a => a.kind == .device .monitorOverflow
  | .capture _ => false

/-- `x` comes from `s` by capture records and by latches, MONITOR_OVERFLOW with `frame` among them exactly when
`ran`: of the Monitor Unit only the records differ, and of the notices added at most one is of
MONITOR_OVERFLOW, and that with `frame`, and none while that alert is not latched. -/
structure State.Tells (s x : State) (frame : Option U16) (ran : Bool) : Prop where
  monitor : x.monitor = { s.monitor with records := x.monitor.records }
  alert : x.hasAlert .monitorOverflow = (s.hasAlert .monitorOverflow || ran)
  general : ∃ more, x.notices.general = s.notices.general ++ more
    ∧ (more.filter fun g => g.notice.ofOverflow).Sublist
        (if x.hasAlert .monitorOverflow then [⟨overflowNotice frame, .waiting⟩] else [])

/-- The latch of MONITOR_OVERFLOW after latches: NOTICE_LOST, which a full section adds, is another alert. -/
theorem State.Latches.hasOverflow {x y : State} {os : List GeneralNotice} {js : DeviceAlert → Bool}
    (h : x.Latches y os js) :
    y.hasAlert .monitorOverflow = (x.hasAlert .monitorOverflow || js .monitorOverflow) := by
  rw [h.alerts, show (DeviceAlert.monitorOverflow == .noticeLost) = false from rfl, Bool.false_and,
    Bool.or_false]

theorem State.Tells.refl (s : State) (frame : Option U16) : s.Tells s frame false where
  monitor := rfl
  alert := (Bool.or_false _).symm
  general := ⟨[], (List.append_nil _).symm, List.nil_sublist _⟩

section
variable {s x y : State} {frame : Option U16} {ran : Bool} (h : s.Tells x frame ran)
include h

theorem State.Tells.putRecords (rs : List CaptureRecord) : s.Tells (x.putRecords rs) frame ran where
  monitor := by rw [State.putRecords_monitor, h.monitor]
  alert := h.alert
  general := h.general

/-- One notice of MONITOR_OVERFLOW at most is added, with the frame of the event (R149). -/
theorem State.Tells.oneNotice :
    ∃ more, x.notices.general = s.notices.general ++ more
      ∧ (more.filter fun g => g.notice.ofOverflow).Sublist [⟨overflowNotice frame, .waiting⟩] := by
  obtain ⟨more, joined, filtered⟩ := h.general
  refine ⟨more, joined, filtered.trans ?_⟩
  split
  · exact .refl _
  · exact List.nil_sublist _

/-- Latches add an overflow notice only where they latch MONITOR_OVERFLOW anew. -/
theorem State.Tells.latches {os : List GeneralNotice} {js : DeviceAlert → Bool} (hl : x.Latches y os js)
    (few : (os.filter GeneralNotice.ofOverflow).Sublist
      (if !x.hasAlert .monitorOverflow && js .monitorOverflow then [overflowNotice frame] else [])) :
    s.Tells y frame (ran || js .monitorOverflow) where
  monitor := by
    have stands : y.monitor = x.monitor := by rw [hl.frame]
    rw [stands, h.monitor]
  alert := by
    rw [hl.hasOverflow, h.alert, Bool.or_assoc]
  general := by
    obtain ⟨more, joined, filtered⟩ := h.general
    refine ⟨more ++ (os.take x.room).map fun n => ⟨n, .waiting⟩, ?_, ?_⟩
    · rw [hl.general, joined, List.append_assoc]
    · have added := ((List.take_sublist x.room os).filter GeneralNotice.ofOverflow).trans few
      rw [List.filter_append, List.filter_map, hl.hasOverflow]
      cases before : x.hasAlert .monitorOverflow with
      | true =>
        rw [before] at added filtered
        rw [Function.comp_def, List.sublist_nil.mp added, List.map_nil, List.append_nil]
        exact filtered
      | false =>
        rw [before] at added filtered
        rw [List.sublist_nil.mp filtered, List.nil_append, Bool.false_or]
        refine (added.map fun n => (⟨n, .waiting⟩ : GeneralEntry)).trans ?_
        cases js .monitorOverflow <;> exact .refl _

/-- Latches of other alerts, with notices of other alerts. -/
theorem State.Tells.latches_other {os : List GeneralNotice} {js : DeviceAlert → Bool}
    (hl : x.Latches y os js) (none : os.filter GeneralNotice.ofOverflow = [])
    (other : js .monitorOverflow = false) : s.Tells y frame ran := by
  have told := h.latches hl (none ▸ List.nil_sublist _)
  rwa [other, Bool.or_false] at told

theorem State.Tells.offerCapture (r : CaptureRecord) : s.Tells (x.offerCapture r) frame ran := by
  by_cases room : x.monitor.records.length < 16
  · rw [State.offerCapture_of_room room]
    split
    · exact (h.putRecords _).latches_other (State.latches_offerGeneral _ _) rfl rfl
    · exact h.putRecords _
  · have full := Nat.not_lt.mp room
    cases policy : x.monitor.policy with
    | stop =>
      rw [State.offerCapture_of_stop full policy]
      refine h.latches_other (State.latches_latchDevice _ _ _) ?_ rfl
      split <;> rfl
    | wrap =>
      rw [State.offerCapture_of_wrap full policy]
      exact h.putRecords _

theorem State.Tells.latchOverflow : s.Tells (x.latchDevice .monitorOverflow frame) frame true := by
  have told := h.latches (State.latches_latchDevice x .monitorOverflow frame) (by
    cases x.hasAlert .monitorOverflow with
    | true => exact List.nil_sublist _
    | false =>
      cases x.masked (.device .monitorOverflow) with
      | true => exact List.nil_sublist _
      | false => exact .refl _)
  rwa [beq_self_eq_true, Bool.or_true] at told

end

/-- One monitor's part of an event. -/
theorem State.Tells.tell {s x : State} {e : Event} {ran : Bool} (h : s.Tells x e.frame ran) (i : Fin 4) :
    s.Tells (s.tell e x i) e.frame (ran || s.monitor.monitors[i].alerts e) := by
  unfold State.tell
  have captured : s.Tells
      (if s.monitor.monitors[i].captures e then x.offerCapture (s.captureRecord i.val e) else x)
      e.frame ran := by
    split
    · exact h.offerCapture _
    · exact h
  cases s.monitor.monitors[i].alerts e with
  | true =>
    rw [Bool.or_true]
    exact captured.latchOverflow
  | false =>
    rw [Bool.or_false]
    exact captured

theorem State.Tells.foldl_tell {s : State} {e : Event} (is : List (Fin 4)) {x : State} {ran : Bool}
    (h : s.Tells x e.frame ran) :
    s.Tells (is.foldl (s.tell e) x) e.frame (ran || is.any fun i => s.monitor.monitors[i].alerts e) := by
  induction is generalizing x ran with
  | nil => rwa [List.any_nil, Bool.or_false]
  | cons i is ih =>
    rw [List.any_cons, ← Bool.or_assoc]
    exact ih (h.tell i)

/-- What the four monitors tell of an event (R149, R152). -/
theorem State.tells_told (s : State) (e : Event) :
    s.Tells (s.told e) e.frame (monitorIndices.any fun i => s.monitor.monitors[i].alerts e) :=
  State.Tells.foldl_tell monitorIndices (.refl s e.frame)

end Sys2Proof.Machine

/-! ### An event taken whole (R150, R156) -/

namespace Sys2Proof.Machine

/-- The trace after a decision's entry is offered to it (R156). -/
def MonitorUnit.traced (u : MonitorUnit) (t : Option TraceEntry) : List TraceEntry :=
  match t with
  | none => u.trace
  | some x => if u.frozen then u.trace else traceJoin u.trace x

theorem State.traceDecision_eq (s : State) (t : Option TraceEntry) :
    s.traceDecision t = { s with monitor := { s.monitor with trace := s.monitor.traced t } } := by
  unfold State.traceDecision MonitorUnit.traced
  cases t with
  | none => rfl
  | some x => cases s.monitor.frozen <;> rfl

theorem MonitorUnit.traced_of_not_frozen {u : MonitorUnit} (h : u.frozen = false) (x : TraceEntry) :
    u.traced (some x) = (if u.trace.length < 16 then u.trace else u.trace.tail) ++ [x] := by
  unfold MonitorUnit.traced
  rw [h]
  rfl

theorem MonitorUnit.traced_stands {u : MonitorUnit} {t : Option TraceEntry}
    (h : t = none ∨ u.frozen = true) : u.traced t = u.trace := by
  unfold MonitorUnit.traced
  rcases h with rfl | frozen
  · rfl
  · cases t with
    | none => rfl
    | some x => exact if_pos frozen

/-- The Monitor Unit takes an event: what the four monitors tell, their settings, the freeze and the
trace. -/
theorem State.takeEvent_eq (s : State) (e : Event) (t : Option TraceEntry) :
    s.takeEvent e t
      = { s.told e with
          monitor :=
            { s.monitor with
              monitors :=
                s.monitor.monitors.map fun m =>
                  { m.judged e with enable := m.enable && !s.freezesOn e }
              records := (s.told e).monitor.records
              frozen := s.monitor.frozen || s.freezesOn e
              trace := s.monitor.traced t } } := by
  have unit (v : Vector Monitor 4) :
      (s.told e).withMonitors v
        = { s.told e with
            monitor := { s.monitor with monitors := v, records := (s.told e).monitor.records } } := by
    unfold State.withMonitors
    rw [(s.tells_told e).monitor]
  unfold State.takeEvent
  rw [foldl_judgeMonitor]
  dsimp only
  rw [unit, State.traceDecision_eq]
  cases s.freezesOn e with
  | true =>
    rw [if_pos rfl, State.freeze]
    simp only [Vector.map_map, Function.comp_def, Bool.not_true, Bool.and_false, Bool.or_true]
    rfl
  | false =>
    rw [if_neg Bool.false_ne_true]
    simp only [Bool.not_false, Bool.and_true, Bool.or_false]
    rfl

/-- What alerting may change, read off the state it leads to. -/
theorem State.OnlyAlerts.frame {s t : State} (h : s.OnlyAlerts t) :
    t = { s with
      link := { s.link with alerts := t.link.alerts }
      notices := { s.notices with general := t.notices.general }
      monitor := t.monitor } := by
  obtain ⟨al, more, mo, rfl, -⟩ := h
  rfl

/-- Settles O44: the state after the event by `State.takeEvent_eq`, its alerts and notices by what the four
monitors tell; the record as the record of the subscriber shows it; the buffer by its room and its policy. -/
theorem eventTakenByMonitors : Obligations.EventTakenByMonitors := by
  unfold Obligations.EventTakenByMonitors
  refine ⟨fun s e entry => ?_, fun s i e => ?_, fun s r => ?_⟩
  · intro t counts overflows freezes held alerts told ofOverflow
    have taken : t = _ := s.takeEvent_eq e entry
    have tells := s.tells_told e
    refine ⟨fun i => ?monitors, ?frozen, ?joins, fun none_or_frozen => ?stands, ⟨?records, ?latches, ?offers⟩, ?alert,
      ?notices, ?unit, (State.onlyAlerts_takeEvent s e entry).frame⟩
    all_goals rw [taken]
    case monitors => exact Vector.getElem_map _ _
    case frozen => rfl
    case joins =>
      rintro x rfl thawed
      exact MonitorUnit.traced_of_not_frozen thawed x
    case stands => exact MonitorUnit.traced_stands none_or_frozen
    case records => rfl
    case latches => rfl
    case offers => rfl
    case alert => exact tells.alert
    case notices =>
      obtain ⟨added, joined, few⟩ := tells.oneNotice
      exact ⟨added, joined, few.length_le, fun x hx isOverflow =>
        List.mem_singleton.mp (few.subset (List.mem_filter.mpr ⟨hx, isOverflow⟩))⟩
  · refine ⟨s.captureSnapshot e, rfl, fun dead => ?_, fun w u hw hu => ?_⟩
    · unfold State.captureSnapshot
      cases hw : e.who with
      | none => rfl
      | some w =>
        rw [Option.bind_some, dead w hw]
    · unfold State.captureSnapshot
      rw [hw, Option.bind_some, hu]
      rfl
  · intro joined notice
    refine ⟨fun room => ?_, fun full => ⟨State.offerCapture_of_stop full, State.offerCapture_of_wrap full⟩⟩
    rw [State.offerCapture_of_room room]
    refine ⟨fun below => if_neg below, fun rise => ?_⟩
    rw [if_pos rise]
    exact ⟨fun free => State.offerGeneral_of_room (s := joined) free notice,
      fun full => State.offerGeneral_of_full (s := joined) full notice⟩

end Sys2Proof.Machine

/-! ### The frame receiver takes a byte (R164 to R168, R178, R179) -/

namespace Sys2Proof.Machine

section
variable {s : State}

/-! #### Whether a byte is heard -/

theorem State.hears_iff : s.Hears ↔ (s.receiving && s.link.restart == .none) = true := by
  unfold State.Hears State.receiving
  simp [and_assoc]

theorem execReceiveByte_of_hears (h : s.Hears) (b : Byte) :
    exec (.receiveByte b) s = .next (s.receive b).arbitrate :=
  congrArg Host.Outcome.next (if_pos (State.hears_iff.mp h))

theorem execReceiveByte_of_not_hears (h : ¬s.Hears) (b : Byte) : exec (.receiveByte b) s = .next s :=
  congrArg Host.Outcome.next (if_neg (mt State.hears_iff.mpr h))

/-! #### Outside a frame -/

/-- A receiver put where it stands changes nothing. -/
theorem State.putRx_of_rx {r : Receiver} (h : s.link.rx = r) : s.putRx r = s := by
  subst h
  rfl

/-- In HUNT only the first sync byte moves the receiver (R165). -/
theorem State.receive_of_hunt (h : s.link.rx = .hunt) (b : Byte) :
    s.receive b = s.putRx (if b = 0xC3#8 then .sync else .hunt) := by
  unfold State.receive syncByte1
  rw [h]
  dsimp only
  by_cases first : b = 0xC3#8
  · rw [if_pos first, if_pos first]
  · rw [if_neg first, if_neg first, State.putRx_of_rx h]

/-- In SYNC the second sync byte begins a header, and another first one is waited on again (R165). -/
theorem State.receive_of_sync (h : s.link.rx = .sync) (b : Byte) :
    s.receive b
      = s.putRx (if b = 0x3C#8 then .header [] else if b = 0xC3#8 then .sync else .hunt) := by
  unfold State.receive syncByte1 syncByte2
  rw [h]
  dsimp only
  by_cases second : b = 0x3C#8
  · rw [if_pos second, if_pos second]
  · rw [if_neg second, if_neg second]
    by_cases first : b = 0xC3#8
    · rw [if_pos first, if_pos first, State.putRx_of_rx h]
    · rw [if_neg first, if_neg first]

/-- Settles O3: unheard the byte changes nothing; heard, the hunt moves as HUNT and SYNC have it. -/
theorem receiverHunts : Obligations.ReceiverHunts := by
  unfold Obligations.ReceiverHunts
  intro s b
  refine ⟨fun deaf => execReceiveByte_of_not_hears deaf b, fun hears rx => ?_, fun hears rx => ?_⟩
  · rw [execReceiveByte_of_hears hears, State.receive_of_hunt rx]
  · rw [execReceiveByte_of_hears hears, State.receive_of_sync rx]

/-! #### Header and body -/

theorem State.receive_of_header (room : s.link.occupied < 4096) {got : List Byte}
    (h : s.link.rx = .header got) (b : Byte) : s.receive b = s.receiveHeader got b := by
  unfold State.receive
  rw [h]
  exact if_pos (decide_eq_true room)

theorem State.receive_of_body (room : s.link.occupied < 4096) {kind tag : Byte} {len : Nat}
    {got : List Byte} (h : s.link.rx = .body kind tag len got) (b : Byte) :
    s.receive b = s.receiveBody kind tag len got b := by
  unfold State.receive
  rw [h]
  exact if_pos (decide_eq_true room)

/-- A header or body byte that finds no room discards its frame (R168). -/
theorem State.receive_of_full (full : 4096 ≤ s.link.occupied)
    (h : (∃ got, s.link.rx = .header got) ∨ ∃ kind tag len got, s.link.rx = .body kind tag len got)
    (b : Byte) : s.receive b = s.discardFrame .linkOverrun := by
  have noRoom : ¬s.hasRoom = true := fun room => Nat.not_lt.mpr full (of_decide_eq_true room)
  unfold State.receive
  rcases h with ⟨got, h⟩ | ⟨kind, tag, len, got, h⟩
  · rw [h]
    exact if_neg noRoom
  · rw [h]
    exact if_neg noRoom

/-- The first three header bytes are stored (R165). -/
theorem State.receiveHeader_of_short {got : List Byte} (h : got.length < 3) (b : Byte) :
    s.receiveHeader got b = s.putRx (.header (got ++ [b])) := by
  unfold State.receiveHeader
  split
  · exact absurd h (Nat.lt_irrefl 3)
  · rfl

/-- Settles O4: the room is judged first, then the byte is stored by its place in the frame. -/
theorem receiverStoresFrame : Obligations.ReceiverStoresFrame := by
  unfold Obligations.ReceiverStoresFrame
  intro s b hears
  rw [execReceiveByte_of_hears hears]
  refine ⟨fun room => ⟨fun got rx short => ?_, fun kind tag hi rx => ?_, fun kind tag len got rx => ?_⟩,
    fun full rx => ?_⟩
  · rw [State.receive_of_header room rx, State.receiveHeader_of_short short]
  · rw [State.receive_of_header room rx]
    unfold State.receiveHeader headerLength Config.maxBody
    dsimp only
    split
    · rfl
    · split <;> rfl
  · rw [State.receive_of_body room rx]
    unfold State.receiveBody
    split <;> rfl
  · rw [State.receive_of_full full rx]
    rfl

/-! #### The CRC -/

/-- The two CRC bytes side by side, high byte first (10 section 10.2). -/
theorem receivedCrc_eq_append (hi lo : Byte) : receivedCrc hi lo = hi ++ lo := by
  refine BitVec.eq_of_toNat_eq ?_
  have high := hi.isLt
  have low := lo.isLt
  unfold receivedCrc
  rw [BitVec.toNat_append, BitVec.toNat_ofNat, ← Nat.shiftLeft_add_eq_or_of_lt low, Nat.shiftLeft_eq]
  omega

theorem State.receive_of_check {kind tag : Byte} {got : List Byte} {crcHigh : Option Byte}
    (h : s.link.rx = .check kind tag got crcHigh) (b : Byte) :
    s.receive b = s.receiveCrc kind tag got crcHigh b := by
  unfold State.receive
  rw [h]

/-- The second CRC byte ends the frame: it is accepted when the CRC agrees, and discarded otherwise (R167). -/
theorem State.receiveCrc_of_second (kind tag : Byte) (got : List Byte) (hi b : Byte) :
    s.receiveCrc kind tag got (some hi) b
      = if hi ++ b = crc (kind :: tag :: BitVec.ofNat 8 (got.length / 256)
            :: BitVec.ofNat 8 got.length :: got) then
          s.acceptFrame ⟨kind, tag, got⟩
        else s.discardFrame .linkCrc := by
  unfold State.receiveCrc
  dsimp only
  rw [receivedCrc_eq_append]
  rfl

/-- Settles O5: the first CRC byte is kept; with the second the frame is accepted or discarded. -/
theorem receiverJudgesCrc : Obligations.ReceiverJudgesCrc := by
  unfold Obligations.ReceiverJudgesCrc
  intro s b kind tag got hears
  rw [execReceiveByte_of_hears hears]
  refine ⟨fun rx => ?_, fun hi rx => ?_⟩
  · rw [State.receive_of_check rx]
    rfl
  · rw [State.receive_of_check rx, State.receiveCrc_of_second]
    split <;> rfl

/-! #### Line faults -/

/-- A framing error that is heard: the frame in reception is discarded, or the receiver hunts, and then it
waits for the idle line (R164). -/
theorem execFramingError_of_receiving (held : s.link.resetHeld = false)
    (awaits : s.link.rxAwaitIdle = false) {t : State}
    (ht : (if s.link.rx.inFrame && s.link.restart == .none then s.discardFrame .linkFraming
      else s.putRx .hunt) = t) :
    exec .framingError s
      = .next (State.arbitrate { t with link := { t.link with rxAwaitIdle := true } }) := by
  have receiving : s.receiving = true := by
    unfold State.receiving
    rw [held, awaits]
    rfl
  subst ht
  exact if_pos receiving

theorem execFrameIdleTimeout_of_not_held (held : s.link.resetHeld = false) :
    exec .frameIdleTimeout s
      = .next
          (if s.link.rx.inFrame && s.link.restart == .none then
            (s.discardFrame .linkFraming).arbitrate
          else s.putRx .hunt) :=
  if_neg (by rw [held]; exact Bool.false_ne_true)

/-- Settles O6: by whether a frame is in reception and none is barred by an accepted RESTART. -/
theorem lineFaultsDiscardTheFrame : Obligations.LineFaultsDiscardTheFrame := by
  unfold Obligations.LineFaultsDiscardTheFrame
  intro s held
  refine ⟨fun restart inFrame => ?_, fun outside => ?_, rfl⟩
  · have inside : (s.link.rx.inFrame && s.link.restart == .none) = true := by
      rw [inFrame, restart]
      rfl
    refine ⟨fun awaits => execFramingError_of_receiving held awaits (if_pos inside), ?_⟩
    rw [execFrameIdleTimeout_of_not_held held, if_pos inside]
    rfl
  · have notInside : ¬(s.link.rx.inFrame && s.link.restart == .none) = true := by
      rw [Bool.and_eq_true, beq_iff_eq]
      rintro ⟨inFrame, restart⟩
      rcases outside with restarting | hunting
      · exact restarting restart
      · exact Bool.false_ne_true (hunting.symm.trans inFrame)
    refine ⟨fun awaits => execFramingError_of_receiving held awaits (if_neg notInside), ?_⟩
    rw [execFrameIdleTimeout_of_not_held held, if_neg notInside]

end

end Sys2Proof.Machine

/-! ### The ALERT line (R179, R183) -/

namespace Sys2Proof.Machine

theorem DeviceAlert.mem_all (a : DeviceAlert) : a ∈ DeviceAlert.all := List.mem_of_getElem? a.all_code

theorem Member.mem_all (m : Member) : m ∈ Member.all := List.mem_of_getElem? m.all_bit

section
variable (s : State)

theorem State.anyUnmaskedDevice_iff :
    (DeviceAlert.all.any fun a => s.hasAlert a && !s.masked (.device a)) = true
      ↔ ∃ a, s.hasAlert a = true ∧ s.masked (.device a) = false := by
  rw [List.any_eq_true]
  simp [DeviceAlert.mem_all]

theorem State.unmaskedMember_iff (u : Subscriber) :
    s.unmaskedMember u = true ↔ ∃ m, u.hasMember m = true ∧ s.masked m.kind = false := by
  unfold State.unmaskedMember
  rw [List.any_eq_true]
  simp [Member.mem_all]

/-- A test of the records, slot by slot: a slot of the table whose record passes it, or none. -/
theorem State.anyRecord_iff (p : Subscriber → Bool) :
    (s.slots.toList.any fun x => x.sub.any p) = true ↔ ∃ n u, (s.slot n).sub = some u ∧ p u = true := by
  rw [State.slots_toList, List.any_map, List.any_eq_true]
  constructor
  · rintro ⟨n, -, h⟩
    obtain ⟨u, hu, hp⟩ := (Option.any_eq_true _ _).mp h
    exact ⟨n, u, hu, hp⟩
  · rintro ⟨n, u, hu, hp⟩
    exact ⟨n, List.mem_range.mpr (s.slot_lt_of_sub n u hu), (Option.any_eq_true _ _).mpr ⟨u, hu, hp⟩⟩

/-- The ALERT line: not held in reset, and an unmasked kind in the device's set or in a record's. -/
theorem State.alertLine_eq :
    s.alertLine
      = (!s.link.resetHeld
          && ((DeviceAlert.all.any fun a => s.hasAlert a && !s.masked (.device a))
            || s.slots.toList.any fun x => x.sub.any s.unmaskedMember)) := by
  unfold State.alertLine
  congr 3
  funext x
  cases x.sub <;> rfl

end

/-- Settles O9: each of the two sets is searched whole. -/
theorem alertLineFollowsLatches : Obligations.AlertLineFollowsLatches := by
  unfold Obligations.AlertLineFollowsLatches
  intro s
  rw [State.alertLine_eq, Bool.and_eq_true, Bool.not_eq_true', Bool.or_eq_true,
    State.anyUnmaskedDevice_iff, State.anyRecord_iff]
  simp only [State.unmaskedMember_iff, exists_and_left]

end Sys2Proof.Machine

/-! ### ALERT_MASK and ALERT_CLEAR (R182, R184, R185) -/

namespace Sys2Proof.Machine

/-! #### The kinds a bitmap chooses -/

/-- The sum of the chosen powers of two below `2 ^ k`. -/
def sumOfBits (p : Nat → Bool) (k : Nat) : Nat :=
  (List.range k).foldl (fun w i => if p i then w + 2 ^ i else w) 0

theorem sumOfBits_succ (p : Nat → Bool) (k : Nat) :
    sumOfBits p (k + 1) = if p k then sumOfBits p k + 2 ^ k else sumOfBits p k := by
  unfold sumOfBits
  rw [List.range_succ, List.foldl_append]
  rfl

theorem sumOfBits_lt (p : Nat → Bool) (k : Nat) : sumOfBits p k < 2 ^ k := by
  induction k with
  | zero => exact Nat.one_pos
  | succ k ih =>
    rw [sumOfBits_succ]
    split <;> omega

/-- Bit `j` of the sum is set when `j` is one of the chosen. -/
theorem testBit_sumOfBits (p : Nat → Bool) (k j : Nat) :
    (sumOfBits p k).testBit j = (decide (j < k) && p j) := by
  induction k with
  | zero => simp [sumOfBits]
  | succ k ih =>
    have lower (h : j ≠ k) : decide (j < k + 1) = decide (j < k) := decide_eq_decide.mpr (by omega)
    rw [sumOfBits_succ]
    split
    · rename_i chosen
      rw [← Nat.or_two_pow_eq_add_of_lt (sumOfBits_lt p k), Nat.testBit_or, ih, Nat.testBit_two_pow]
      by_cases h : j = k
      · simp [h, chosen]
      · rw [lower h, decide_eq_false (Ne.symm h), Bool.or_false]
    · rename_i unchosen
      rw [ih]
      by_cases h : j = k
      · simp [h, unchosen]
      · rw [lower h]

/-- The bits of the members are their places, so that the bitmap of the chosen members is a sum of bits. -/
theorem chosenMembers_eq (bits : Nat) :
    chosenMembers bits
      = BitVec.ofNat 7
          (sumOfBits (fun i => (Member.all[i]?).any fun m => bits.testBit m.kind.code) 7) := rfl

theorem chosenMembers_getLsbD (bits : Nat) (m : Member) :
    (chosenMembers bits).getLsbD m.bit = bits.testBit m.kind.code := by
  rw [chosenMembers_eq, BitVec.getLsbD_ofNat, testBit_sumOfBits, decide_eq_true m.bit_lt, m.all_bit]
  rfl

theorem Subscriber.hasMember_clearKinds (u : Subscriber) (bits : Nat) (m : Member) :
    (u.clearKinds bits).hasMember m = (u.hasMember m && !bits.testBit m.kind.code) := by
  unfold Subscriber.hasMember Subscriber.clearKinds
  rw [BitVec.getLsbD_and, BitVec.getLsbD_not, decide_eq_true m.bit_lt, Bool.true_and,
    chosenMembers_getLsbD]

section
variable (s : State) (bits : Nat)

theorem State.hasAlert_clearEverywhere (a : DeviceAlert) :
    (s.clearEverywhere bits).hasAlert a = (s.hasAlert a && !bits.testBit a.code) := by
  show (s.link.alerts &&& ~~~BitVec.ofNat 10 bits).getLsbD a.code = _
  rw [BitVec.getLsbD_and, BitVec.getLsbD_not, BitVec.getLsbD_ofNat, decide_eq_true a.code_lt,
    Bool.true_and, Bool.true_and]
  rfl

theorem State.slot_clearEverywhere (n : Nat) :
    (s.clearEverywhere bits).slot n
      = { s.slot n with sub := (s.slot n).sub.map (·.clearKinds bits) } :=
  s.slot_mapSubs (·.clearKinds bits) n

end

/-! #### The two blocks -/

section
variable {b : List Byte} (s : State)

theorem alertMaskBlock_bad (h : 2 ^ 14 ≤ num2 b 0) : alertMaskBlock b s = s.refuse .badField :=
  if_pos (decide_eq_true h)

theorem alertMaskBlock_ok (h : num2 b 0 < 2 ^ 14) :
    alertMaskBlock b s
      = State.accept { s with link := { s.link with mask := BitVec.ofNat 14 (num2 b 0) } } :=
  if_neg fun beyond => Nat.not_le.mpr h (of_decide_eq_true beyond)

/-- A bit beyond the fourteen kinds, or a flag byte that names none, is BAD_FIELD. -/
theorem alertClearBlock_bad (h : 2 ^ 14 ≤ num2 b 0 ∨ 1 < num1 b 2) :
    alertClearBlock b s = s.refuse .badField := by
  unfold alertClearBlock
  split
  · rfl
  · rename_i within
    have flag := h.resolve_left fun beyond => within (decide_eq_true beyond)
    rw [flagOf_eq_none_iff.mpr flag]

theorem alertClearBlock_everywhere (kinds : num2 b 0 < 2 ^ 14) (flag : num1 b 2 = 0) :
    alertClearBlock b s = (s.clearEverywhere (num2 b 0)).accept := by
  unfold alertClearBlock
  rw [flagOf_eq_false_iff.mpr flag]
  exact if_neg fun beyond => Nat.not_le.mpr kinds (of_decide_eq_true beyond)

theorem alertClearBlock_named (kinds : num2 b 0 < 2 ^ 14) (flag : num1 b 2 = 1) :
    alertClearBlock b s = s.clearNamed (handleAtOffset b 3) (num2 b 0) := by
  unfold alertClearBlock
  rw [flagOf_eq_true_iff.mpr flag]
  exact if_neg fun beyond => Nat.not_le.mpr kinds (of_decide_eq_true beyond)

end

/-! #### ALERT_CLEAR with a handle, in the order of R184 -/

section
variable {s : State} {h : Handle} {bits : Nat}

theorem State.clearNamed_bad (bad : 95 < h.slot ∨ bits % 2 ^ 10 ≠ 0) :
    s.clearNamed h bits = s.refuse .badField := by
  refine if_pos ?_
  rw [Bool.or_eq_true, Bool.not_eq_true']
  refine bad.imp (fun above => ?_) fun device => decide_eq_true device
  rw [Bool.eq_false_iff]
  exact fun inside => Nat.not_lt.mpr ((slotExists_iff _).mp inside) above

/-- A handle that passes the checks of its fields is looked up: dead, it is UNKNOWN_HANDLE. -/
theorem State.clearNamed_dead (inside : h.slot ≤ 95) (noDevice : bits % 2 ^ 10 = 0)
    (dead : s.lookup h = none) : s.clearNamed h bits = s.refuse .unknownHandle := by
  unfold State.clearNamed choosesDevice
  rw [(slotExists_iff _).mpr inside, decide_eq_false (not_not.mpr noDevice), dead]
  rfl

theorem State.clearNamed_live {u : Subscriber} (inside : h.slot ≤ 95) (noDevice : bits % 2 ^ 10 = 0)
    (live : s.lookup h = some u) :
    s.clearNamed h bits = (s.putSub h.slot (u.clearKinds bits)).accept := by
  unfold State.clearNamed choosesDevice
  rw [(slotExists_iff _).mpr inside, decide_eq_false (not_not.mpr noDevice), live]
  rfl

end

/-- Settles O16: what each block makes of the body, and the sets bit by bit. -/
theorem alertMaskAndClear : Obligations.AlertMaskAndClear := by
  unfold Obligations.AlertMaskAndClear
  refine ⟨fun s f ht hk hl => ⟨fun beyond => ?_, fun within => ?_⟩, fun s f ht hk hl => ?_⟩
  · exact State.runRequest_refuses s f _ .alertMask 2 anyState alertMaskBlock _ rfl ht hk hl rfl
      (alertMaskBlock_bad s beyond)
  · exact State.runRequest_answers s f _ .alertMask 2 anyState alertMaskBlock _ _ _ rfl ht hk hl rfl
      (alertMaskBlock_ok s within) rfl rfl rfl
  intro bits h
  have refused {r : Result} (hb : alertClearBlock f.body s = s.refuse r) : s.Refuses .alertClear f r :=
    State.runRequest_refuses s f _ .alertClear 5 anyState alertClearBlock r rfl ht hk hl rfl hb
  have cleared {s' : State} (hb : alertClearBlock f.body s = s'.accept)
      (answers : s'.link.answers = s.link.answers) (accepted : s'.link.accepted = s.link.accepted)
      (tx : s'.link.tx = s.link.tx) : s.AnswersWith .alertClear f .ok .empty s' :=
    State.runRequest_answers s f _ .alertClear 5 anyState alertClearBlock s' _ _ rfl ht hk hl rfl hb
      answers accepted tx
  refine ⟨fun bad => refused (alertClearBlock_bad s bad), fun kinds flag => ?_, fun kinds flag => ?_⟩
  · refine ⟨s.clearEverywhere bits, cleared (alertClearBlock_everywhere s kinds flag) rfl rfl rfl, rfl,
      s.hasAlert_clearEverywhere bits, fun n => ?_, fun n free => ?_, fun n u hu => ?_⟩
    · rw [State.slot_clearEverywhere]
    · rw [State.slot_clearEverywhere, free]
      rfl
    · refine ⟨(u.clearKinds bits).alerts, ?_, u.hasMember_clearKinds bits⟩
      rw [State.slot_clearEverywhere, hu]
      rfl
  · have block := alertClearBlock_named s kinds flag
    refine ⟨fun bad => refused (block.trans (State.clearNamed_bad bad)), fun inside noDevice =>
      ⟨fun dead => refused (block.trans (State.clearNamed_dead inside noDevice dead)), fun u live => ?_⟩⟩
    refine ⟨s.putSub h.slot (u.clearKinds bits), (u.clearKinds bits).alerts,
      cleared (block.trans (State.clearNamed_live inside noDevice live)) rfl rfl rfl, rfl, ?_,
      fun n other => ?_, u.hasMember_clearKinds bits⟩
    · rw [State.slot_putSub, if_pos ⟨rfl, Nat.lt_succ_of_le inside⟩]
      rfl
    · rw [State.slot_putSub, if_neg fun same => other same.1.symm]

end Sys2Proof.Machine

/-! ### An accepted RESTART (R172, R178) -/

namespace Sys2Proof.Machine

/-- With no pass in flight a RESTART is answered OK and its reset awaited (R178). -/
theorem State.execRestart_accepted {s : State} {f : Frame} (ht : s.TakesUp f) (hk : f.kind = 0x02#8)
    (hb : f.body = []) (idle : s.ranker.stage = .idle) :
    exec .restart s = .next (s.joinAnswer f .ok .empty).awaitRestart := by
  have noPass : idleOnly s = none :=
    if_neg fun inFlight => absurd idle (of_decide_eq_true inFlight)
  show execRestart s = _
  unfold execRestart
  rw [State.takeUp_of_takesUp s f (fun g => g.kind == Request.restart.code) ht (beq_iff_eq.mpr hk)]
  dsimp only
  unfold State.decodeRestart
  rw [if_neg (by simp [hb]), noPass]

/-- Settles O19: the answer joins as every answer does, and the wait for the reset touches the link alone. -/
theorem restartAwaitsItsReset : Obligations.RestartAwaitsItsReset := by
  unfold Obligations.RestartAwaitsItsReset
  intro s f ht hk hb idle
  refine ⟨_, State.execRestart_accepted ht hk hb idle, s.joinAnswer_link_answers f .ok .empty, rfl, rfl,
    rfl, s.joinAnswer_link_decoding f .ok .empty, ?_, fun busy =>
      ⟨s.tx_joinAnswer_of_busy f .ok .empty busy, s.notices_joinAnswer_of_busy f .ok .empty busy⟩⟩
  rw [← s.inner_joinAnswer f .ok .empty]
  rfl

end Sys2Proof.Machine

/-! ### Requests of fixed length, as a table (R169, R170, R187, R188) -/

namespace Sys2Proof.Machine

/-! #### A step that decodes the frame it takes up -/

/-- The step of a request: the frame asked for is taken up and decoded, and without it nothing happens. -/
def State.takesThen (s : State) (wanted : Frame → Bool) (decode : Frame → State) :
    Host.Outcome State Fault Refusal :=
  match s.takeUp wanted with
  | none => .next s
  | some f => .next (decode f)

section
variable {s : State} {wanted : Frame → Bool} (decode : Frame → State)

theorem State.takesThen_of_none (h : ∀ f, s.TakesUp f → wanted f = false) :
    s.takesThen wanted decode = .next s := by
  unfold State.takesThen
  rw [State.takeUp_of_none s wanted h]

theorem State.takesThen_of_takesUp {f : Frame} (h : s.TakesUp f) (hw : wanted f = true) :
    s.takesThen wanted decode = .next (decode f) := by
  unfold State.takesThen
  rw [State.takeUp_of_takesUp s f wanted h hw]

theorem State.takesThen_completes : ∃ t, s.takesThen wanted decode = .next t := by
  unfold State.takesThen
  split <;> exact ⟨_, rfl⟩

end

/-! #### The table -/

/-- The command `c` takes up frames of one kind alone, and all of them whose body has another length than
`len`, which it answers BAD_LENGTH. -/
structure FixedRequest (c : Instr) (kind : Byte) (len : Nat) (wanted : Frame → Bool)
    (decode : State → Frame → State) : Prop where
  step : ∀ s, exec c s = s.takesThen wanted (decode s)
  kind_of_wanted : ∀ f, wanted f = true → f.kind = kind
  wanted_of_length : ∀ f, f.kind = kind → f.body.length ≠ len → wanted f = true
  badLength : ∀ s f, f.body.length ≠ len → decode s f = s.joinAnswer f .badLength .empty

/-- A request asked for by its kind alone. -/
theorem FixedRequest.of_kind {c : Instr} (q : Request) {len : Nat} {decode : State → Frame → State}
    (step : ∀ s, exec c s = s.takesThen (fun f => f.kind == q.code) (decode s))
    (badLength : ∀ s f, f.body.length ≠ len → decode s f = s.joinAnswer f .badLength .empty) :
    FixedRequest c q.code len (fun f => f.kind == q.code) decode where
  step := step
  kind_of_wanted _ := beq_iff_eq.mp
  wanted_of_length _ hk _ := beq_iff_eq.mpr hk
  badLength := badLength

/-- A request judged by `State.runRequest`. -/
theorem FixedRequest.of_runRequest {c : Instr} (q : Request) {len : Nat} {rule : State → Option Result}
    {block : List Byte → State → Reply} (he : ∀ s, exec c s = s.runRequest q len rule block) :
    FixedRequest c q.code len (fun f => f.kind == q.code) fun s f => s.decodeFrame f len rule block :=
  .of_kind q he fun s f hl => s.decodeFrame_badLength f len rule block hl

theorem fixedRequest_restart :
    FixedRequest .restart 0x02#8 0 (fun f => f.kind == Request.restart.code) State.decodeRestart :=
  .of_kind .restart (fun _ => rfl) fun _ _ hl => if_pos hl

theorem fixedRequest_serviceOff :
    FixedRequest .serviceOff 0x04#8 0 (fun f => f.kind == Request.serviceOff.code)
      State.decodeServiceOff :=
  .of_kind .serviceOff (fun _ => rfl) fun _ _ hl => if_pos hl

theorem fixedRequest_frameMark :
    FixedRequest .frameMark 0x18#8 2 (fun f => f.kind == Request.frameMark.code)
      State.decodeFrameMark :=
  .of_kind .frameMark (fun _ => rfl) fun _ _ hl => if_pos hl

/-- MONITOR_SETUP leaves to MONITOR_SETUP_BUFFER only frames of the right length (R158, R159). -/
theorem fixedRequest_monitorSetup :
    FixedRequest .monitorSetup 0x20#8 13
      (fun f => f.kind == Request.monitorSetup.code && !targetsBuffer f)
      fun s f => s.decodeFrame f 13 anyState monitorSetupBlock where
  step _ := rfl
  kind_of_wanted _ hw := beq_iff_eq.mp (Bool.and_eq_true_iff.mp hw).1
  wanted_of_length f hk hl := by
    unfold targetsBuffer
    rw [hk, beq_eq_false_iff_ne.mpr hl, Bool.and_false, Bool.false_and]
    rfl
  badLength s f hl := s.decodeFrame_badLength f 13 anyState monitorSetupBlock hl

/-- Every row of the table is a request of its kind and length. -/
theorem exists_fixedRequest :
    ∀ r ∈ fixedRequests, ∃ wanted decode, FixedRequest r.1 r.2.1 r.2.2 wanted decode := by
  unfold fixedRequests
  simp only [List.forall_mem_cons]
  exact
    ⟨⟨_, _, .of_runRequest .status fun _ => rfl⟩,
      ⟨_, _, fixedRequest_restart⟩,
      ⟨_, _, .of_runRequest .serviceOn fun _ => rfl⟩,
      ⟨_, _, fixedRequest_serviceOff⟩,
      ⟨_, _, .of_runRequest .alertClear fun _ => rfl⟩,
      ⟨_, _, .of_runRequest .alertMask fun _ => rfl⟩,
      ⟨_, _, .of_runRequest .rateTable fun _ => rfl⟩,
      ⟨_, _, .of_runRequest .trackSetup fun _ => rfl⟩,
      ⟨_, _, .of_runRequest .classProfile fun _ => rfl⟩,
      ⟨_, _, .of_runRequest .energyTable fun _ => rfl⟩,
      ⟨_, _, .of_runRequest .passSetup fun _ => rfl⟩,
      ⟨_, _, .of_runRequest .admission fun _ => rfl⟩,
      ⟨_, _, .of_runRequest .release fun _ => rfl⟩,
      ⟨_, _, .of_runRequest .suspend fun _ => rfl⟩,
      ⟨_, _, .of_runRequest .resume fun _ => rfl⟩,
      ⟨_, _, .of_runRequest .linkUpdate fun _ => rfl⟩,
      ⟨_, _, .of_runRequest .subscriberRead fun _ => rfl⟩,
      ⟨_, _, fixedRequest_frameMark⟩,
      ⟨_, _, .of_runRequest .energyReport fun _ => rfl⟩,
      ⟨_, _, fixedRequest_monitorSetup⟩,
      ⟨_, _, .of_runRequest .counterRead fun _ => rfl⟩,
      ⟨_, _, .of_runRequest .captureRead fun _ => rfl⟩,
      ⟨_, _, .of_runRequest .traceRead fun _ => rfl⟩,
      ⟨_, _, .of_runRequest .traceResume fun _ => rfl⟩,
      List.forall_mem_nil _⟩

/-! #### The kinds that name no request -/

/-- The two tables hold the kind codes of R187 between them. -/
theorem isRequestKind_iff (k : Byte) :
    isRequestKind k = true
      ↔ k ∈ fixedRequests.map (fun r => r.2.1) ++ batchRequests.map (fun r => r.2.1) := by
  have codes : (Request.all.map Request.code).Perm
      (fixedRequests.map (fun r => r.2.1) ++ batchRequests.map (fun r => r.2.1)) := by decide
  rw [← codes.mem_iff, List.mem_map]
  unfold isRequestKind
  simp only [List.any_eq_true, beq_iff_eq]

theorem execUnknownKindRequest_eq (s : State) :
    exec .unknownKindRequest s
      = s.takesThen (fun f => !isRequestKind f.kind) fun f => s.joinAnswer f .unknownKind .empty := rfl

/-- Settles O12: the kind is judged where the frame is taken up, the length first where it is decoded. -/
theorem wrongKindOrLengthRefused : Obligations.WrongKindOrLengthRefused := by
  unfold Obligations.WrongKindOrLengthRefused
  intro s f ht
  refine ⟨fun unknown => ?_, fun r hr hk hl => ?_⟩
  · have wanted : (!isRequestKind f.kind) = true := by
      rw [Bool.not_eq_true', Bool.eq_false_iff]
      exact mt (isRequestKind_iff f.kind).mp unknown
    refine State.refuses_of_exec s _ f _ ?_
    rw [execUnknownKindRequest_eq, State.takesThen_of_takesUp _ ht wanted]
  · obtain ⟨wanted, decode, request⟩ := exists_fixedRequest r hr
    refine State.refuses_of_exec s _ f _ ?_
    rw [request.step, State.takesThen_of_takesUp _ ht (request.wanted_of_length f hk hl),
      request.badLength s f hl]

end Sys2Proof.Machine

/-! ### The queue behind the command that is run: no command touches it (log 2, log 27) -/

namespace Sys2Proof.Machine

/-- `t` has the commands waiting that `s` has. -/
def State.SameQueue (s t : State) : Prop := t.pending = s.pending

/-! #### The shared operations -/

section
variable (s : State)

@[simp] theorem State.answerHead_pending (r : Result) : (s.answerHead r).pending = s.pending := by
  unfold State.answerHead
  split
  · exact State.joinAnswer_pending _ _ _ _
  · rfl

@[simp] theorem State.startPass_pending (f : U16) : (s.startPass f).pending = s.pending :=
  (State.onlyTable_startPass s f).pending

@[simp] theorem State.startMarkedPass_pending (f : U16) : (s.startMarkedPass f).pending = s.pending := by
  rcases State.startMarkedPass_cases s f with he | ⟨b, ho, he⟩
  · simp [he]
  · simp [he, ho.pending]

@[simp] theorem State.resolveDeferred_pending : s.resolveDeferred.pending = s.pending := by
  unfold State.resolveDeferred
  split <;> simp

@[simp] theorem State.complete_pending : s.complete.pending = s.pending := by
  obtain ⟨al, more, mo, sl, b, he, rfl, -⟩ := State.complete_footprint s
  rw [he]
  rfl

@[simp] theorem State.flush_pending (d : Direction) : (s.flush d).pending = s.pending := by
  obtain ⟨more, rs, q, he, -⟩ := State.flush_shape s d
  rw [he]

@[simp] theorem State.endPlacer_pending (d : Direction) (why : EndReason) :
    (s.endPlacer d why).pending = s.pending := by
  unfold State.endPlacer
  dsimp only
  split <;> simp

@[simp] theorem State.beginPlacement_pending : s.beginPlacement.pending = s.pending :=
  (State.onlyAlerts_takeAllowance s.orderLists _).pending

@[simp] theorem State.truncate_pending (c : Cause) : (s.truncate c).pending = s.pending := by
  unfold State.truncate State.truncateConstruction
  split <;> simp

@[simp] theorem State.deferUntilIdle_pending (waiting : Decoding) (c : Cause) :
    (s.deferUntilIdle waiting c).pending = s.pending := by
  unfold State.deferUntilIdle
  dsimp only
  split <;> simp

@[simp] theorem State.placeCandidate_pending (d : Direction) (c : Candidate) :
    (s.placeCandidate d c).pending = s.pending := by
  rcases State.placeCandidate_cases s d c with ⟨he, -⟩ | ⟨k, r, tiles, he⟩ | ⟨u, t, he, -⟩
  · simp [he]
  · rw [he]
    exact (State.onlyTable_skipCandidate s d c k r tiles).pending
  · obtain ⟨more, rs, q, ho, -⟩ := State.grantCandidate_footprint s d c u t
    rw [he, ho.pending]
    cases d <;> rfl

@[simp] theorem State.placerStep_pending (d : Direction) (begun : Bool) :
    (s.placerStep d begun).pending = s.pending := by
  unfold State.placerStep State.stopAfter
  split
  · simp
  · simp
  · simp
  · split
    · split <;> simp
    · simp

@[simp] theorem State.constructAt_pending (n : Nat) : (s.constructAt n).pending = s.pending := by
  obtain ⟨views, lists, ho⟩ := s.constructAt_footprint n
  exact ho.pending

@[simp] theorem State.discardFrame_pending (a : DeviceAlert) : (s.discardFrame a).pending = s.pending :=
  (State.onlyAlerts_latchDevice (s.putRx .hunt) a s.ranker.newest).pending

@[simp] theorem State.receive_pending (b : Byte) : (s.receive b).pending = s.pending := by
  rcases s.receive_outcome b with ⟨r, he⟩ | ⟨f, he⟩ | ⟨a, he⟩ <;> simp [he]

@[simp] theorem State.leaveLine_pending (t : Transmission) : (s.leaveLine t).pending = s.pending := by
  unfold State.leaveLine
  split <;> rfl

@[simp] theorem State.deviceReset_pending (b1 b0 : PinLevel) :
    (s.deviceReset b1 b0).pending = s.pending := by
  rw [State.deviceReset_eq]

@[simp] theorem State.holdInReset_pending : s.holdInReset.pending = s.pending := rfl

end

theorem KeepsBeside.pending {block : List Byte → State → Reply} (h : KeepsBeside block) (b : List Byte)
    (s : State) : (block b s).state.pending = s.pending := congrArg (·.pending) (h b s)

/-! #### Every command -/

/-- No command touches the queue's rest. -/
theorem exec_sameQueue (s : State) (c : Instr) : LeadsTo (exec c s) s.SameQueue := by
  have here : s.SameQueue s := rfl
  have answering (t : State) (f : Frame) (r : Result) (d : AnswerData) (h : s.SameQueue t) :
      s.SameQueue (t.joinAnswer f r d) := (t.joinAnswer_pending f r d).trans h
  have defer (t : State) (w : Decoding) (c : Cause) (h : s.SameQueue t) :
      s.SameQueue (t.deferUntilIdle w c) := (t.deferUntilIdle_pending w c).trans h
  have discard (t : State) (a : DeviceAlert) (h : s.SameQueue t) : s.SameQueue (t.discardFrame a) :=
    (t.discardFrame_pending a).trans h
  have request {block : List Byte → State → Reply} (hb : KeepsBeside block) (k : Request) (len : Nat)
      (rule : State → Option Result) : LeadsTo (s.runRequest k len rule block) s.SameQueue :=
    State.runRequest_keeps here answering (fun b t h => (hb.pending b t).trans h) k len rule
  have batch {apply : List Byte → State → EntryTaken}
      (ha : ∀ (e : List Byte) (t : State), t.OnlyTable (apply e t).state) (k : Request)
      (codesOk : List Byte → Bool) (n : Nat) : LeadsTo (s.runBatch k codesOk apply n) s.SameQueue :=
    State.runBatch_keeps here answering (fun _ h => h)
      (fun es t h => (State.onlyAlerts_takeEvents t es).pending.trans h)
      (fun e t h => (ha e t).pending.trans h) (fun _ _ h => h) k codesOk n
  cases c with
  | receiveByte b =>
    refine .next ?_
    split
    · exact s.receive_pending b
    · rfl
  | framingError =>
    exact execFramingError_keeps here discard (fun _ h => h) (fun _ h => h) fun _ h => h
  | frameIdleTimeout => exact execFrameIdleTimeout_keeps here discard (fun _ h => h) fun _ h => h
  | unknownKindRequest => exact execUnknownKindRequest_keeps here answering
  | status => exact request (fun _ _ => rfl) _ _ _
  | restart => exact execRestart_keeps here answering fun _ h => h
  | serviceOn =>
    exact State.runRequest_keeps (block := serviceOnBlock) here answering (fun _ _ h => h) _ _ _
  | serviceOff => exact execServiceOff_keeps here answering defer
  | alertClear => exact request keepsBeside_alertClear _ _ _
  | alertMask => exact request keepsBeside_alertMask _ _ _
  | rateTable => exact request keepsBeside_rateTable _ _ _
  | trackSetup => exact request keepsBeside_trackSetup _ _ _
  | classProfile => exact request keepsBeside_classProfile _ _ _
  | energyTable => exact request keepsBeside_energyTable _ _ _
  | passSetup => exact request keepsBeside_passSetup _ _ _
  | admission => exact request keepsBeside_admission _ _ _
  | release => exact request (keepsBeside_withNamed fun _ _ _ => rfl) _ _ _
  | suspend => exact request (keepsBeside_withNamed suspendBlock_besideBlocks) _ _ _
  | resume => exact request (keepsBeside_withNamed resumeBlock_besideBlocks) _ _ _
  | linkUpdate =>
    exact request (fun b t => keepsBeside_withNamed (linkUpdateFields_besideBlocks b) b t) _ _ _
  | subscriberRead => exact request keepsBeside_subscriberRead _ _ _
  | frameMark => exact execFrameMark_keeps here answering defer
  | qualityBatch n => exact batch State.onlyTable_qualityEntry _ _ n
  | queueBatch n => exact batch State.onlyTable_queueEntry _ _ n
  | outcomeBatch n => exact batch State.onlyTable_outcomeEntry _ _ n
  | energyReport => exact request (fun _ _ => rfl) _ _ _
  | monitorSetup =>
    exact execMonitorSetup_keeps here answering fun b t h =>
      (keepsBeside_monitorSetup.pending b t).trans h
  | monitorSetupBuffer =>
    exact execMonitorSetupBuffer_keeps here answering fun b t h =>
      (keepsBeside_bufferSetup.pending b t).trans h
  | counterRead => exact request keepsBeside_counterRead _ _ _
  | captureRead => exact request keepsBeside_captureRead _ _ _
  | traceRead => exact request (fun _ _ => rfl) _ _ _
  | traceResume => exact request (fun _ _ => rfl) _ _ _
  | messageSent =>
    exact execMessageSent_keeps here (fun t x h => (t.leaveLine_pending x).trans h) (fun _ h => h)
      fun _ h => h
  | powerOn b1 b0 =>
    refine .next ?_
    split
    · rfl
    · exact s.deviceReset_pending b1 b0
  | resetLineAssert =>
    refine .next ?_
    split <;> rfl
  | resetLineRelease b1 b0 =>
    refine .next ?_
    split
    · exact s.deviceReset_pending b1 b0
    · rfl
  | restartReset b1 b0 =>
    refine .next ?_
    split
    · exact s.deviceReset_pending b1 b0
    · rfl
  | constructSlot =>
    show LeadsTo (execConstructSlot s) _
    unfold execConstructSlot State.SameQueue
    split
    · refine .next ?_
      split <;> simp
    · exact .next rfl
  | placeCandidate d begun =>
    show LeadsTo (execPlaceCandidate d begun s) _
    unfold execPlaceCandidate
    split
    · exact .next (s.placerStep_pending d begun)
    · exact .next rfl
  | deadlineExpiry =>
    show LeadsTo (execDeadlineExpiry s) _
    unfold execDeadlineExpiry State.SameQueue
    split
    · refine .next ?_
      split <;> simp
    · exact .next rfl
  | lineReturnToIdle => exact .next rfl

end Sys2Proof.Machine

/-! ### Every command answers a next state, and a step that cannot occur changes nothing (log 1) -/

namespace Sys2Proof.Machine

/-! #### A next state -/

/-- A choice between two steps answers a next state when both do. -/
theorem completes_ite {p : Prop} [Decidable p] (t u : State) :
    ∃ x, (if p then .next t else .next u : Host.Outcome State Fault Refusal) = .next x := by
  split <;> exact ⟨_, rfl⟩

theorem State.runBatch_completes (s : State) (q : Request) (codesOk : List Byte → Bool)
    (apply : List Byte → State → EntryTaken) (n : Nat) : ∃ t, s.runBatch q codesOk apply n = .next t := by
  unfold State.runBatch
  split
  · exact ⟨_, rfl⟩
  · exact ⟨_, rfl⟩
  · split
    · exact ⟨_, rfl⟩
    · exact completes_ite _ _

theorem execMessageSent_completes (s : State) : ∃ t, execMessageSent s = .next t := by
  unfold execMessageSent
  split
  · exact ⟨_, rfl⟩
  · exact completes_ite _ _

theorem fixedRequest_completes (s : State) {c : Instr} (h : c ∈ fixedRequests.map (fun r => r.1)) :
    ∃ t, exec c s = .next t := by
  obtain ⟨r, hr, rfl⟩ := List.mem_map.mp h
  obtain ⟨wanted, decode, request⟩ := exists_fixedRequest r hr
  rw [request.step]
  exact State.takesThen_completes _

theorem exec_completes (c : Instr) (s : State) : ∃ t, exec c s = .next t := by
  cases c
  case status | restart | serviceOn | serviceOff | alertClear | alertMask | rateTable | trackSetup
      | classProfile | energyTable | passSetup | admission | release | suspend | resume | linkUpdate
      | subscriberRead | frameMark | energyReport | monitorSetup | counterRead | captureRead | traceRead
      | traceResume =>
    exact fixedRequest_completes s (by decide)
  case unknownKindRequest | monitorSetupBuffer => exact State.takesThen_completes _
  case qualityBatch | queueBatch | outcomeBatch => exact State.runBatch_completes _ _ _ _ _
  case framingError | frameIdleTimeout | constructSlot | placeCandidate | deadlineExpiry =>
    exact completes_ite _ _
  case messageSent => exact execMessageSent_completes s
  case receiveByte | powerOn | resetLineAssert | resetLineRelease | restartReset | lineReturnToIdle =>
    exact ⟨_, rfl⟩

/-! #### The steps that cannot occur -/

section
variable {s : State}

/-- The requests of a MONITOR_SETUP frame part by its length and target (R158, R159; log 25). -/
theorem targetsBuffer_iff {f : Frame} :
    targetsBuffer f = true ↔ f.kind = 0x20#8 ∧ f.body.length = 13 ∧ num1 f.body 0 = 4 := by
  unfold targetsBuffer bufferTarget
  rw [Bool.and_eq_true, Bool.and_eq_true, beq_iff_eq, beq_iff_eq, beq_iff_eq, and_assoc]
  rfl

theorem execMonitorSetup_of_buffer
    (h : ∀ f, s.TakesUp f → f.kind = 0x20#8 → f.body.length = 13 ∧ num1 f.body 0 = 4) :
    exec .monitorSetup s = .next s := by
  rw [fixedRequest_monitorSetup.step]
  refine State.takesThen_of_none _ fun f ht => ?_
  rw [Bool.and_eq_false_imp]
  intro hk
  have setup : f.kind = 0x20#8 := beq_iff_eq.mp hk
  rw [targetsBuffer_iff.mpr ⟨setup, h f ht setup⟩]
  rfl

theorem execMonitorSetupBuffer_of_monitor
    (h : ∀ f, s.TakesUp f → f.kind = 0x20#8 → ¬(f.body.length = 13 ∧ num1 f.body 0 = 4)) :
    exec .monitorSetupBuffer s = .next s := by
  refine State.takesThen_of_none (wanted := targetsBuffer)
    (fun f => s.decodeFrame f 13 anyState bufferSetupBlock) fun f ht => ?_
  rw [Bool.eq_false_iff]
  intro buffer
  obtain ⟨setup, target⟩ := targetsBuffer_iff.mp buffer
  exact h f ht setup target

/-- A frame that a batch goes on with, or begins, is the oldest accepted one, of its kind, while the decoder
may act and no other decoding stands (R23, R169). -/
theorem State.batchFrame_may {q : Request} {x : Frame × Option BatchProgress}
    (h : s.batchFrame q = some x) :
    s.link.accepted.head? = some x.1 ∧ x.1.kind = q.code ∧ s.link.resetHeld = false
      ∧ s.link.restart = .none ∧ s.link.answers.length < 16
      ∧ (s.link.decoding = .idle ∨ ∃ p, s.link.decoding = .batch p) := by
  unfold State.batchFrame at h
  split at h
  · rename_i may
    unfold State.mayDecode at may
    simp only [Bool.and_eq_true, Bool.not_eq_true', beq_iff_eq, decide_eq_true_eq] at may
    obtain ⟨⟨held, restart⟩, room⟩ := may
    split at h
    · rename_i f rest accepted decoding
      split at h
      · rename_i kind
        cases h
        exact ⟨by rw [accepted]; rfl, beq_iff_eq.mp kind, held, restart, room, .inl decoding⟩
      · cases h
    · rename_i f rest p accepted decoding
      split at h
      · rename_i kind
        cases h
        exact ⟨by rw [accepted]; rfl, beq_iff_eq.mp kind, held, restart, room, .inr ⟨p, decoding⟩⟩
      · cases h
    · cases h
  · cases h

/-- A batch that may neither begin nor go on changes nothing. -/
theorem execBatch_of_barred {r : (Nat → Instr) × Byte × Nat} (hr : r ∈ batchRequests) (n : Nat)
    (h : ∀ f, s.link.accepted.head? = some f → f.kind = r.2.1 →
      s.link.resetHeld = true ∨ s.link.restart ≠ .none ∨ 16 ≤ s.link.answers.length
        ∨ (s.link.decoding ≠ .idle ∧ ∀ p, s.link.decoding ≠ .batch p)) :
    exec (r.1 n) s = .next s := by
  obtain ⟨codesOk, apply, batch⟩ := exists_batchOf hr
  obtain ⟨q, code, -, runs⟩ := batch.runs
  have none : s.batchFrame q = none := by
    refine Option.eq_none_iff_forall_ne_some.mpr fun x hx => ?_
    obtain ⟨head, kind, held, restart, room, decoding⟩ := State.batchFrame_may hx
    rcases h x.1 head (kind.trans code) with bar | bar | bar | ⟨busy, noBatch⟩
    · exact Bool.false_ne_true (held.symm.trans bar)
    · exact bar restart
    · exact Nat.not_le.mpr room bar
    · exact decoding.elim busy fun ⟨p, between⟩ => noBatch p between
  rw [runs]
  unfold State.runBatch
  rw [none]

end

/-- Settles O2: every arm ends in a next state with the queue's rest, and each barred step is the arm of its
command that changes nothing. -/
theorem everyCommandCompletes : Obligations.EveryCommandCompletes := by
  unfold Obligations.EveryCommandCompletes
  refine ⟨fun c s => ?_, fun s => ?_⟩
  · obtain ⟨t, ht⟩ := exec_completes c s
    exact ⟨t, ht, exec_sameQueue s c t ht⟩
  intro forBuffer
  refine ⟨fun r hr barred => ?_, execMonitorSetup_of_buffer, execMonitorSetupBuffer_of_monitor,
    fun known => ?_, fun r hr n => execBatch_of_barred hr n, fun barred => if_neg ?_,
    fun d begun barred => if_neg ?_, fun held => ⟨if_pos held, if_neg ?_, congrArg _ (if_pos held)⟩,
    fun deaf => if_neg ?_⟩
  · obtain ⟨wanted, decode, request⟩ := exists_fixedRequest r hr
    rw [request.step]
    exact State.takesThen_of_none _ fun f ht =>
      Bool.eq_false_iff.mpr fun hw => barred f ht (request.kind_of_wanted f hw)
  · rw [execUnknownKindRequest_eq]
    refine State.takesThen_of_none _ fun f ht => ?_
    rw [(isRequestKind_iff f.kind).mpr (known f ht)]
    rfl
  · rintro ⟨constructing, free⟩
    exact barred.elim (absurd constructing) fun held => Bool.false_ne_true (free.symm.trans held)
  · rintro ⟨placing, running, free⟩
    rcases barred with bar | bar | held
    · exact bar placing
    · exact bar running
    · exact Bool.false_ne_true (free.symm.trans held)
  · rintro ⟨-, free⟩
    exact Bool.false_ne_true (free.symm.trans held)
  · unfold State.receiving
    rcases deaf with held | awaits
    · rw [held]
      exact Bool.false_ne_true
    · rw [awaits, Bool.not_true, Bool.and_false]
      exact Bool.false_ne_true

end Sys2Proof.Machine

/-! ### The bytes of every message (R185 to R188, chapter 10) -/

namespace Sys2Proof.Machine

/-! #### The CRC and the frame -/

theorem crcShift_eq_ite_msb (r : U16) :
    crcShift r = if r.msb then (r <<< 1) ^^^ 0x1021#16 else r <<< 1 := by
  unfold crcShift
  rw [BitVec.msb_eq_decide]
  by_cases low : r.toNat < 32768
  · rw [if_pos low, if_neg (by simpa using low)]
  · rw [if_neg low, if_pos (by simpa using low)]

theorem byte_shiftLeft_eq_append (b : Byte) : b.setWidth 16 <<< 8 = b ++ 0#8 := by
  refine BitVec.eq_of_toNat_eq ?_
  have := b.isLt
  rw [BitVec.toNat_append, BitVec.toNat_shiftLeft, BitVec.toNat_setWidth_of_le (by decide)]
  simp only [BitVec.toNat_ofNat, Nat.zero_mod, Nat.or_zero, Nat.shiftLeft_eq]
  omega

/-- A byte enters the high half of the register, which is then stepped eight times (R186). -/
theorem crcByte_eq_iterate (r : U16) (b : Byte) :
    crcByte r b
      = (fun c : U16 => if c.msb then (c <<< 1) ^^^ 0x1021#16 else c <<< 1)^[8] (r ^^^ (b ++ 0#8)) := by
  unfold crcByte
  rw [funext crcShift_eq_ite_msb, byte_shiftLeft_eq_append]

/-- The two bytes of a word, most significant first, are the word (R185). -/
theorem ofNat_append_ofNat_toNat (w : U16) :
    BitVec.ofNat 8 (w.toNat / 256) ++ BitVec.ofNat 8 w.toNat = w := by
  refine (receivedCrc_eq_append _ _).symm.trans (BitVec.eq_of_toNat_eq ?_)
  have := w.isLt
  unfold receivedCrc
  simp only [BitVec.toNat_ofNat]
  omega

/-- A frame ends in its CRC, high byte first (10 section 10.2). -/
theorem frameBytes_ends_with_crc (kind tag : Byte) (body : List Byte) :
    ∃ hi lo : Byte, hi ++ lo = crc (frameCovered kind tag body)
      ∧ frameBytes kind tag body = 0xC3#8 :: 0x3C#8 :: (frameCovered kind tag body ++ [hi, lo]) :=
  ⟨_, _, ofNat_append_ofNat_toNat _, rfl⟩

/-! #### Fields -/

theorem byte4_eq (n : Nat) :
    byte4 n = [BitVec.ofNat 8 (n / 2 ^ 24), BitVec.ofNat 8 (n / 2 ^ 16), BitVec.ofNat 8 (n / 2 ^ 8),
      BitVec.ofNat 8 n] := by
  unfold byte4 byte2
  rw [Nat.div_div_eq_div_mul]
  rfl

theorem signed2_eq (x : Int) : signed2 x = byte2 (x % 65536).toNat := by
  unfold signed2
  rw [BitVec.toNat_ofInt]
  rfl

theorem signed4_eq (x : Int) : signed4 x = byte4 (x % 2 ^ 32).toNat := by
  unfold signed4
  rw [BitVec.toNat_ofInt]
  rfl

theorem flag1_eq (b : Bool) : flag1 b = byte1 (bitAt 0 b) := by
  cases b <;> rfl

theorem policy_byte (p : Policy) : byte1 p.code = [if p = .wrap then 1#8 else 0#8] := by
  cases p <;> rfl

theorem device_byte (d : DeviceState) : byte1 d.code = [if d = .service then 1#8 else 0#8] := by
  cases d <;> rfl

theorem byte1_toNat (b : Byte) : byte1 b.toNat = [b] := by
  unfold byte1
  rw [BitVec.ofNat_toNat, BitVec.setWidth_eq]

theorem handleBytes?_eq (h : Option Handle) :
    handleBytes? h = (h.map handleBytes).getD [0#8, 0#8] := by
  cases h <;> rfl

theorem wordBytes?_eq (w : Option U16) : wordBytes? w = byte2 ((w.map BitVec.toNat).getD 0) := by
  cases w <;> rfl

theorem dirByte?_eq (d : Option Direction) : dirByte? d = byte1 ((d.map dirCode).getD 0) := by
  cases d <;> rfl

theorem snapshotBytes_eq (c : Option CaptureSnapshot) :
    snapshotBytes c = (c.map fun x => snapshotBytes (some x)).getD (List.replicate 25 0#8) := by
  cases c <;> rfl

theorem toNat_getD_zero (w : Option U32) : (w.getD 0).toNat = (w.map BitVec.toNat).getD 0 := by
  cases w <;> rfl

/-! #### The acceptance of a frame -/

theorem State.discardFrame_link_accepted (s : State) (a : DeviceAlert) :
    (s.discardFrame a).link.accepted = s.link.accepted := by
  have only : (s.putRx .hunt).OnlyAlerts (s.discardFrame a) := State.onlyAlerts_latchDevice _ _ _
  rw [only.link]
  rfl

/-- The frame joins the accepted ones with its second CRC byte exactly when the CRC agrees (R167, R186). -/
theorem State.receiveCrc_accepts_iff (s : State) (kind tag : Byte) (got : List Byte) (hi lo : Byte) :
    (s.receiveCrc kind tag got (some hi) lo).link.accepted = s.link.accepted ++ [⟨kind, tag, got⟩]
      ↔ hi ++ lo = crc (kind :: tag :: BitVec.ofNat 8 (got.length / 256)
          :: BitVec.ofNat 8 got.length :: got) := by
  rw [State.receiveCrc_of_second]
  split
  · next agrees => exact iff_of_true rfl agrees
  · next differs =>
    rw [State.discardFrame_link_accepted]
    exact iff_of_false (by simp) differs

/-- Settles O55. The register takes a byte as `crcByte_eq_iterate` says, and a frame is accepted as
`State.receiveCrc_accepts_iff` says. Each layout of chapter 10 is the model's, the smaller ones first: the
lemmas on fields bring the optional, signed, flag and four-byte fields to the statement's spelling. -/
theorem frameCarriesItsCrc : Obligations.FrameCarriesItsCrc := by
  unfold Obligations.FrameCarriesItsCrc
  intro shift taken
  have bytesTaken : crcByte = taken := funext₂ crcByte_eq_iterate
  refine ⟨fun bs => congrArg (bs.foldl · 0xFFFF#16) bytesTaken, by decide +kernel, rfl,
    frameBytes_ends_with_crc, rfl, ?layouts, ?codes, ?acceptance⟩
  case layouts =>
    intro one two four bit handle handle? word? run grant figures monitor snapshot capture traced history
      track demand service
    have fours : byte4 = four := funext byte4_eq
    have handles? : handleBytes? = handle? := funext handleBytes?_eq
    have words? : wordBytes? = word? := funext wordBytes?_eq
    have demands : demandBytes = demand := by
      funext g
      rw [demandBytes, fours, words?, flag1_eq]
      rfl
    have services : serviceBytes = service := by
      funext v
      rw [serviceBytes, fours, signed4_eq, fours, flag1_eq, toNat_getD_zero]
      rfl
    have tracks (r : SubscriberRead) (d : Direction) :
        trackBytes (r.sub.tracks.get d) (r.age.get d) (r.quality.get d) (r.rateStep.get d)
          = track r d := by
      rw [trackBytes, fours, signed2_eq, flag1_eq]
      rfl
    have monitors : monitorBytes = monitor := by
      funext m
      rw [monitorBytes, fours, handles?, flag1_eq, flag1_eq, byte1_toNat]
      rfl
    have snapshots (c : CaptureSnapshot) : snapshotBytes (some c) = snapshot c := by
      rw [snapshotBytes, fours, signed2_eq, signed4_eq, fours]
      rfl
    have captures : captureBytes = capture := by
      funext c
      rw [captureBytes, words?, dirByte?_eq, handles?, snapshotBytes_eq, funext snapshots]
      rfl
    have grants : grantBytes = grant := by
      funext g
      obtain ⟨_, _, _, _, _, _, _, run2, _⟩ := g
      cases run2 <;> rfl
    refine ⟨fun a => ⟨if a.result = .ok ∨ a.result = .partialBatch then dataBytes a.data else [], ?_,
      congrArg (ite _ · _) ?_⟩, fun c => ?_, fun m => rfl, fun a => ?_, fun c => ?_⟩
    · rw [answerFrame, answerBody, summaryBytes, words?, device_byte]
      rfl
    · cases a.data with
      | empty | admitted | batch | freeSlot => rfl
      | record r =>
        dsimp only
        rw [dataBytes, recordBytes, fours, handles?, demands, services, ← tracks r .dl, ← tracks r .ul]
        rfl
      | counters c =>
        rw [dataBytes, counterBytes, fours, monitors, flag1_eq, policy_byte]
        simp only [List.append_assoc]
        rfl
      | trace frozen es =>
        rw [dataBytes, flag1_eq]
        rfl
      | captures held rs =>
        rw [dataBytes, captures]
        rfl
    · rw [grantNoticeFrame, grants]
      rfl
    · rw [generalNoticeFrame, handles?, dirByte?_eq, words?]
      rfl
    · rw [generalNoticeFrame, flag1_eq, words?]
      rfl
  case codes =>
    exact ⟨rfl, rfl, rfl, rfl, rfl, rfl, rfl, rfl, rfl, rfl, rfl, rfl, rfl, fun _ _ _ => rfl⟩
  case acceptance =>
    intro s t kind tag hi lo got hears rx next
    rw [execReceiveByte_of_hears hears, State.receive_of_check rx] at next
    cases next
    exact s.receiveCrc_accepts_iff kind tag got hi lo

end Sys2Proof.Machine

/-! ### The front of the queue (log 2) -/

namespace Sys2Proof.Machine

/-- Of two replacements of the queue the later one stands. -/
@[simp] theorem State.withPending_withPending (s : State) (cs ds : List Instr) :
    (s.withPending cs).withPending ds = s.withPending ds := rfl

theorem step_of_pending_cons {s : State} {c : Instr} {cs : List Instr} (front : s.pending = c :: cs) :
    step s = exec c (s.withPending cs) := by
  unfold step
  rw [front]

/-- Settles O1: `c` is taken from the front, and the queue it stood on is replaced by the rest. -/
theorem stepRunsFrontCommand : Obligations.StepRunsFrontCommand := by
  unfold Obligations.StepRunsFrontCommand
  intro c cs s
  calc step (s.withPending (c :: cs))
      = exec c ((s.withPending (c :: cs)).withPending cs) :=
        step_of_pending_cons (s.withPending_pending (c :: cs))
    _ = exec c (s.withPending cs) := congrArg (exec c) (s.withPending_withPending (c :: cs) cs)

end Sys2Proof.Machine
